-- ==== Sys2Proof/Word.lean ====
section
/-! DEFINITION. The word types of CORE (spec 00_scope.md R7, R8). -/

namespace Sys2Proof

/-- `u8`: a register of the sensor, a command word, a burst byte. -/
abbrev Byte := BitVec 8

/-- `u16` or `s16`: a two-byte coefficient, the humidity code. -/
abbrev Half := BitVec 16

/-- `u20`: a pressure or temperature code (R27). -/
abbrev Code20 := BitVec 20

/-- `s32` or `u32`: every intermediate of the three stages and every result (R120, R132). -/
abbrev Word := BitVec 32

/-- The 6 bits of `PHASE` (R34, R93). -/
abbrev PhaseCode := BitVec 6

end Sys2Proof
end

