-- ==== Sys2Proof/Config.lean ====
section
/-! DEFINITION. What one CORE fixes for its life (spec 00_scope.md R5, 10_state.md R43) and the free values: every
value the spec leaves open is an opaque constant here, so that no proof can see what it is. -/

namespace Sys2Proof

/-- The order of the three configuration writes of INIT (`CFG_ORDER`, R5): a permutation of the registers 0xF5, 0xF4
and 0xF2, named by the last digits in the order written. The first constructor is the spec's default. -/
inductive CfgOrder where
  | o542
  | o524
  | o452
  | o425
  | o254
  | o245
  deriving DecidableEq, Repr, Inhabited

/-- The OPEN parameters of R5 that CORE uses. They are constant for the life of one CORE and are no registers (R43). -/
structure Params where
  /-- `CFG_FILTER`, written to 0xF5 by INIT. -/
  cfgFilter : Byte
  /-- `CFG_CTRL_IDLE`, written to 0xF4 by INIT. -/
  cfgCtrlIdle : Byte
  /-- `CFG_CTRL_FORCED`, written to 0xF4 by TRIG. -/
  cfgCtrlForced : Byte
  /-- `CFG_HUM`, written to 0xF2 by INIT. -/
  cfgHum : Byte
  /-- `CFG_ORDER`. -/
  cfgOrder : CfgOrder
  deriving DecidableEq, Repr

/-- `CFG_FILTER`: OPEN (R5). -/
opaque Config.cfgFilter : Byte

/-- `CFG_CTRL_IDLE`: OPEN (R5). -/
opaque Config.cfgCtrlIdle : Byte

/-- How far `CFG_CTRL_FORCED` lies above `CFG_CTRL_IDLE`, less one: OPEN. The 255 offsets are the 255 bytes that
R5's constraint `CFG_CTRL_FORCED != CFG_CTRL_IDLE` leaves. -/
opaque Config.cfgForcedOffset : Fin 255

/-- `CFG_HUM`: OPEN (R5). -/
opaque Config.cfgHum : Byte

/-- `CFG_ORDER`: OPEN (R5, D15). -/
opaque Config.cfgOrder : CfgOrder

/-- `CFG_CTRL_FORCED`: any byte but `CFG_CTRL_IDLE` (R5). -/
def Config.cfgCtrlForced : Byte :=
  Config.cfgCtrlIdle + BitVec.ofNat 8 (Config.cfgForcedOffset.val + 1)

/-- The parameters of the CORE that `State.reset` describes. -/
def Config.params : Params where
  cfgFilter := Config.cfgFilter
  cfgCtrlIdle := Config.cfgCtrlIdle
  cfgCtrlForced := Config.cfgCtrlForced
  cfgHum := Config.cfgHum
  cfgOrder := Config.cfgOrder

/-- FREE VALUE (DESIGN CHOICE, entry 6; safe): the byte that the n-th draw of the environment returns for a sensor
register whose content nothing has fixed (20_memory.md R76, R77). -/
opaque Config.sensorDraw : Nat → Byte

/-- FREE VALUE (DESIGN CHOICE, entries 5 and 13; safe): the n-th unspecified value of `w` bits: a data register after
a reset (70_reset_and_hazards.md R300), `TFINE` read while `TFV = 0` (R220, R240). -/
opaque Config.unspecified : (w : Nat) → Nat → BitVec w

/-- `DEV_ADDR`: the bus device address of the sensor (R5, 20_memory.md R63). -/
def Config.devAddr : Byte := 0x76#8

/-- `BURST_BASE`: the first register of the raw burst (R5). -/
def Config.burstBase : Byte := 0xF7#8

/-- `N_BURST`: the number of bytes of the raw burst (R5). -/
def Config.nBurst : Nat := 8

end Sys2Proof
end

