-- ==== Sys2Proof/Syntax.lean ====
section
/-! DEFINITION. The instructions of CORE: the 33 rows of spec/opcode_table.json, two commands (format CMD8, spec
30_encoding.md R90, R91) and 31 phase codes (format PH6, R93, R94). No row has an operand (R90). -/

namespace Sys2Proof

/-- One constructor per row of spec/opcode_table.json. -/
inductive Instr where
  /-- INIT (R151), command word 0x01. -/
  | init
  /-- GET (R152), command word 0x02. -/
  | get
  /-- IDLE (R34), phase 0x00. -/
  | idle
  /-- WRCFG0 (R170), phase 0x01. -/
  | wrcfg0
  /-- WRCFG1 (R171), phase 0x02. -/
  | wrcfg1
  /-- WRCFG2 (R172), phase 0x03. -/
  | wrcfg2
  /-- LDT1 (R173), phase 0x04. -/
  | ldt1
  /-- LDT2 (R174), phase 0x05. -/
  | ldt2
  /-- LDT3 (R175), phase 0x06. -/
  | ldt3
  /-- LDP1 (R176), phase 0x07. -/
  | ldp1
  /-- LDP2 (R177), phase 0x08. -/
  | ldp2
  /-- LDP3 (R178), phase 0x09. -/
  | ldp3
  /-- LDP4 (R179), phase 0x0A. -/
  | ldp4
  /-- LDP5 (R180), phase 0x0B. -/
  | ldp5
  /-- LDP6 (R181), phase 0x0C. -/
  | ldp6
  /-- LDP7 (R182), phase 0x0D. -/
  | ldp7
  /-- LDP8 (R183), phase 0x0E. -/
  | ldp8
  /-- LDP9 (R184), phase 0x0F. -/
  | ldp9
  /-- LDH1 (R185), phase 0x10. -/
  | ldh1
  /-- LDH2 (R186), phase 0x11. -/
  | ldh2
  /-- LDH3 (R187), phase 0x12. -/
  | ldh3
  /-- LDH4 (R188), phase 0x13. -/
  | ldh4
  /-- LDH5 (R189), phase 0x14. -/
  | ldh5
  /-- LDH6 (R190), phase 0x15. -/
  | ldh6
  /-- RDY (R191), phase 0x16. -/
  | rdy
  /-- TRIG (R200), phase 0x20. -/
  | trig
  /-- WAIT (R201), phase 0x21. -/
  | wait
  /-- RDRAW (R202), phase 0x22. -/
  | rdraw
  /-- UNPK (R203), phase 0x23. -/
  | unpk
  /-- CMPT (R211), phase 0x24. -/
  | cmpt
  /-- CMPH (R221), phase 0x25. -/
  | cmph
  /-- CMPP (R241), phase 0x26. -/
  | cmpp
  /-- OUT (R260), phase 0x27. -/
  | out
  deriving DecidableEq, Repr

/-- An instruction as its bits stand in the machine: the 8 bits of a command word on the port `CMD` (R90), or the 6
bits of `PHASE` (R93). The two formats share codes; which one a code has is known by where it stands (R110). -/
inductive CodeWord where
  | cmd8 (w : Byte)
  | ph6 (c : PhaseCode)
  deriving DecidableEq, Repr

end Sys2Proof
end

