-- ==== Sys2Proof/WellFormed.lean ====
section
/-! DEFINITION. The checks on syntax: which codes select an instruction (spec 30_encoding.md R92, R95), and the
constraint on the parameters (00_scope.md R5). -/

namespace Sys2Proof

/-- No instruction of CORE has an operand (R90), so no instruction can be ill formed. One line per constructor, so
that an instruction with an operand could not slip past. -/
def Instr.wellFormed : Instr → Bool
  | .init | .get => true
  | .idle => true
  | .wrcfg0 | .wrcfg1 | .wrcfg2 => true
  | .ldt1 | .ldt2 | .ldt3 => true
  | .ldp1 | .ldp2 | .ldp3 | .ldp4 | .ldp5 | .ldp6 | .ldp7 | .ldp8 | .ldp9 => true
  | .ldh1 | .ldh2 | .ldh3 | .ldh4 | .ldh5 | .ldh6 => true
  | .rdy => true
  | .trig | .wait | .rdraw | .unpk => true
  | .cmpt | .cmph | .cmpp | .out => true

/-- The legal command words are 0x01 and 0x02; the other 254 are reserved (R91, R92). -/
def commandLegal (w : Byte) : Bool := w == 0x01#8 || w == 0x02#8

/-- The phase codes in use are 0x00 to 0x16 and 0x20 to 0x27 (R94); 0x17 to 0x1F and 0x28 to 0x3F are unused (R95). -/
def phaseUsed (c : PhaseCode) : Bool := c ≤ 0x16#6 || (0x20#6 ≤ c && c ≤ 0x27#6)

/-- A code that selects an instruction of its format. -/
def CodeWord.wellFormed : CodeWord → Bool
  | .cmd8 w => commandLegal w
  | .ph6 c => phaseUsed c

/-- R5: `CFG_CTRL_FORCED != CFG_CTRL_IDLE`. -/
def Params.wellFormed (p : Params) : Bool := p.cfgCtrlForced != p.cfgCtrlIdle

end Sys2Proof
end

