-- ==== Sys2Proof/Decode.lean ====
section
/-! DEFINITION. The decoder of command words and phase codes, total and rejecting by name (spec 30_encoding.md R91,
R92, R94, R95, R110), and the encoder beside it. -/

namespace Sys2Proof

/-- Why a code selects no instruction. -/
inductive DecodeError where
  /-- A reserved command word (R92); dispatch raises IllegalCommand for it (60_exceptions.md R271). -/
  | reservedCommand (w : Byte)
  /-- An unused phase code (R95). -/
  | unusedPhase (c : PhaseCode)
  deriving DecidableEq, Repr

/-- The command words (R91); every other word is reserved (R92). -/
def decodeCommand (w : Byte) : Except DecodeError Instr :=
  match w.toNat with
  | 0x01 => .ok .init
  | 0x02 => .ok .get
  | _ => .error (.reservedCommand w)

/-- The phase codes (R94); every other code is unused (R95). -/
def decodePhase (c : PhaseCode) : Except DecodeError Instr :=
  match c.toNat with
  | 0x00 => .ok .idle
  | 0x01 => .ok .wrcfg0
  | 0x02 => .ok .wrcfg1
  | 0x03 => .ok .wrcfg2
  | 0x04 => .ok .ldt1
  | 0x05 => .ok .ldt2
  | 0x06 => .ok .ldt3
  | 0x07 => .ok .ldp1
  | 0x08 => .ok .ldp2
  | 0x09 => .ok .ldp3
  | 0x0A => .ok .ldp4
  | 0x0B => .ok .ldp5
  | 0x0C => .ok .ldp6
  | 0x0D => .ok .ldp7
  | 0x0E => .ok .ldp8
  | 0x0F => .ok .ldp9
  | 0x10 => .ok .ldh1
  | 0x11 => .ok .ldh2
  | 0x12 => .ok .ldh3
  | 0x13 => .ok .ldh4
  | 0x14 => .ok .ldh5
  | 0x15 => .ok .ldh6
  | 0x16 => .ok .rdy
  | 0x20 => .ok .trig
  | 0x21 => .ok .wait
  | 0x22 => .ok .rdraw
  | 0x23 => .ok .unpk
  | 0x24 => .ok .cmpt
  | 0x25 => .ok .cmph
  | 0x26 => .ok .cmpp
  | 0x27 => .ok .out
  | _ => .error (.unusedPhase c)

/-- The decoder of both formats (R110). -/
def decode : CodeWord → Except DecodeError Instr
  | .cmd8 w => decodeCommand w
  | .ph6 c => decodePhase c

/-- The encoder: the code of each instruction, from the tables of R91 and R94. -/
def encode : Instr → CodeWord
  | .init => .cmd8 0x01#8
  | .get => .cmd8 0x02#8
  | .idle => .ph6 0x00#6
  | .wrcfg0 => .ph6 0x01#6
  | .wrcfg1 => .ph6 0x02#6
  | .wrcfg2 => .ph6 0x03#6
  | .ldt1 => .ph6 0x04#6
  | .ldt2 => .ph6 0x05#6
  | .ldt3 => .ph6 0x06#6
  | .ldp1 => .ph6 0x07#6
  | .ldp2 => .ph6 0x08#6
  | .ldp3 => .ph6 0x09#6
  | .ldp4 => .ph6 0x0A#6
  | .ldp5 => .ph6 0x0B#6
  | .ldp6 => .ph6 0x0C#6
  | .ldp7 => .ph6 0x0D#6
  | .ldp8 => .ph6 0x0E#6
  | .ldp9 => .ph6 0x0F#6
  | .ldh1 => .ph6 0x10#6
  | .ldh2 => .ph6 0x11#6
  | .ldh3 => .ph6 0x12#6
  | .ldh4 => .ph6 0x13#6
  | .ldh5 => .ph6 0x14#6
  | .ldh6 => .ph6 0x15#6
  | .rdy => .ph6 0x16#6
  | .trig => .ph6 0x20#6
  | .wait => .ph6 0x21#6
  | .rdraw => .ph6 0x22#6
  | .unpk => .ph6 0x23#6
  | .cmpt => .ph6 0x24#6
  | .cmph => .ph6 0x25#6
  | .cmpp => .ph6 0x26#6
  | .out => .ph6 0x27#6

/-- Which format a word of `nbits` bits is, and its code. Six bits are a phase code. Eight bits are a command word if
they are a legal one; the table's six-bit rows come in as whole bytes, so an eight-bit word that is no legal command
but is below 64 is read as the phase code in its low six bits. The codes 0x01 and 0x02 stand in both formats; as
eight bits they are the commands (DESIGN CHOICE, entry 1). -/
def tableWord (nbits w : Nat) : Option CodeWord :=
  match nbits with
  | 6 => if w < 64 then some (.ph6 (BitVec.ofNat 6 w)) else none
  | 8 =>
    if w < 256 then
      if commandLegal (BitVec.ofNat 8 w) then some (.cmd8 (BitVec.ofNat 8 w))
      else if phaseUsed (BitVec.ofNat 6 w) && w < 64 then some (.ph6 (BitVec.ofNat 6 w))
      else some (.cmd8 (BitVec.ofNat 8 w))
    else none
  | _ => none

/-- The instruction the decoder reads from a word of the opcode table. -/
def decodeTableWord (nbits w : Nat) : Option Instr :=
  match tableWord nbits w with
  | some cw =>
    match decode cw with
    | .ok i => some i
    | .error _ => none
  | none => none

end Sys2Proof
end

