-- ==== Sys2Proof/Machine/State.lean ====
section
/-! DEFINITION. The state of CORE and of its environment, the reasons a step can stop, and the state after reset
(spec 10_state.md, 60_exceptions.md, 70_reset_and_hazards.md). Everything here is plain data. -/

namespace Sys2Proof.Machine

/-- The temperature coefficients (R21). -/
structure TempCal where
  t1 : Half
  t2 : Half
  t3 : Half
  deriving DecidableEq, Repr

/-- The pressure coefficients (R22). -/
structure PresCal where
  p1 : Half
  p2 : Half
  p3 : Half
  p4 : Half
  p5 : Half
  p6 : Half
  p7 : Half
  p8 : Half
  p9 : Half
  deriving DecidableEq, Repr

/-- The humidity coefficients (R23). -/
structure HumCal where
  h1 : Byte
  h2 : Half
  h3 : Byte
  h4 : Half
  h5 : Half
  h6 : Byte
  deriving DecidableEq, Repr

/-- The two states of the lifecycle flag `LC` (R35). -/
inductive Lifecycle where
  | uninit
  | ready
  deriving DecidableEq, Repr

/-- The three errors of CORE (60_exceptions.md R270). Raising one is a next state, not a fault (R279). -/
inductive CmdError where
  /-- R271: dispatch, a reserved command word. -/
  | illegalCommand
  /-- R272: dispatch, a command the lifecycle does not allow. -/
  | sequenceError
  /-- R273: a transaction returned Fail. -/
  | busError
  deriving DecidableEq, Repr

/-- The outcome of one bus transaction (R65, R66, R78). -/
inductive BusAnswer where
  | ok
  | fail
  deriving DecidableEq, Repr

/-- The three result registers a host can read (R161). -/
inductive ResultReg where
  | tOut
  | hOut
  | pOut
  deriving DecidableEq, Repr

/-- One act of the environment, or CORE's turn (R17). A list of events says who moves next (DESIGN CHOICE, entry 2). -/
inductive Event where
  /-- CORE makes one step. -/
  | core
  /-- The host presents a command word, waiting for `BUSY = 0` first (R150). -/
  | command (w : Byte)
  /-- The host waits for `BUSY = 0` (R111). -/
  | awaitIdle
  /-- The host asserts reset (R300). -/
  | reset
  /-- The host reads `STATUS` (R160). -/
  | readStatus
  /-- The host reads a result register (R161). -/
  | readResult (r : ResultReg)
  /-- The sensor gives one of its registers a content, or (`none`) leaves it open (R76; `.sreg` of R111). -/
  | sensor (a : Byte) (v : Option Byte)
  /-- The transport will fail the k-th transaction from now, k counted from 1 (`.fail k` of R111). -/
  | failNth (k : Nat)
  /-- The transport does not answer; as the last event, it never does (R159, R314). R19 and R159 tie the stall to the
  micro-operation that issued a transaction; that this event stalls CORE in every state, also where no transaction is
  pending, is the model's choice (DESIGN CHOICE, entry 9). -/
  | hang
  deriving DecidableEq, Repr

/-- One bus transaction as it went over the bus (R79): the device address (R63), the register address, and what came
of it. -/
inductive Transaction where
  /-- `W(addr, value)`; `ok` is false where the transport answered Fail. -/
  | write (device addr value : Byte) (ok : Bool)
  /-- `R(addr, count)`; `bytes` is none where the transport answered Fail. -/
  | read (device addr : Byte) (count : Nat) (bytes : Option (List Byte))
  deriving DecidableEq, Repr

/-- What one read of the host returned (R160, R161). A result register read while `RVALID = 0` or `BUSY = 1` has no
value (10_state.md R46). -/
inductive HostRead where
  | status (v : Byte)
  | result (r : ResultReg) (v : Option Word)
  deriving DecidableEq, Repr

/-- The sensor register space as the environment has fixed it: (address, byte) pairs, addresses strictly rising and
below 256. A register not listed has no fixed content (entry 6). -/
abbrev Memory := List Host.Cell

/-- The state. The fields to `esticky` are the spec's; those from `params` on are the model's own picture of the
environment. -/
structure State where
  /-- `CAL.T1` to `CAL.T3` (R21). -/
  calT : TempCal
  /-- `CAL.P1` to `CAL.P9` (R22). -/
  calP : PresCal
  /-- `CAL.H1` to `CAL.H6` (R23). -/
  calH : HumCal
  /-- `RB[0..7]` (R26). -/
  rb : Vector Byte 8
  /-- `ADC_P` (R27). -/
  adcP : Code20
  /-- `ADC_T` (R27). -/
  adcT : Code20
  /-- `ADC_H` (R27). -/
  adcH : Half
  /-- `TFINE` (R28). -/
  tfine : Word
  /-- `TFV` (R29). -/
  tfv : Bool
  /-- `T_OUT` (R31). -/
  tOut : Word
  /-- `H_OUT` (R32). -/
  hOut : Word
  /-- `P_OUT` (R33). -/
  pOut : Word
  /-- `PHASE`, the program counter (R34). -/
  phase : PhaseCode
  /-- `LC` (R35). -/
  lc : Lifecycle
  /-- `BUSY` (R36). -/
  busy : Bool
  /-- `RVALID` (R37). -/
  rvalid : Bool
  /-- `ERR` (R38). -/
  err : BitVec 2
  /-- `ESTICKY` (R39). -/
  esticky : Bool
  /-- The parameters of this CORE (R5, R43); no step changes them. -/
  params : Params
  /-- The sensor register space (R60, R61). -/
  sensor : Memory
  /-- The answers of the coming transactions; past its end every transaction is Ok (entry 8). -/
  transport : List BusAnswer
  /-- What happens next (R17; entry 2). -/
  script : List Event
  /-- How many free values have been taken (entry 22). -/
  draws : Nat
  /-- The transactions so far, newest first (R79; entry 15). -/
  history : List Transaction
  /-- The host's reads so far, newest first (R160, R161; entry 14). -/
  hostSeen : List HostRead
  deriving DecidableEq, Repr

/-- CORE never stops with a fault: each of its three errors ends the command and leaves CORE idle and ready for the
next one (60_exceptions.md R279, R281), so the type has no constructor (entry 17). -/
inductive Fault where
  deriving DecidableEq, Repr

/-- Why the model has no step. -/
inductive Refusal where
  /-- Raised by `exec`'s arm of an instruction that has no meaning yet; safe. No arm does. -/
  | notModelled (mnemonic : String)
  /-- Raised by `execInit` and `execGet` where `BUSY = 1`: the command port is not ready and no transfer can happen
  (R150; U4 of 93_implementation_defined.md asks for a refusal). `step` never gets there: the host waits. Safe. -/
  | commandPortBusy
  /-- Raised by CORE's turn where `BUSY = 1` and `PHASE` holds an unused code (R95; U10 asks for a refusal by name).
  No state that CORE reaches is such a state. Safe. -/
  | unusedPhase (c : PhaseCode)
  deriving DecidableEq, Repr

/-- The outcome of a step of this machine. -/
abbrev Outcome := Host.Outcome State Fault Refusal

/-- The state after reset (R45, R300). The flags and `PHASE` have the spec's values; the data registers, which the spec
leaves unspecified, hold zero (DESIGN CHOICE, entry 4; unsafe). Nothing is listed in the sensor, and neither the host
nor the transport has anything in store. -/
def State.reset : State where
  calT := { t1 := 0, t2 := 0, t3 := 0 }
  calP := { p1 := 0, p2 := 0, p3 := 0, p4 := 0, p5 := 0, p6 := 0, p7 := 0, p8 := 0, p9 := 0 }
  calH := { h1 := 0, h2 := 0, h3 := 0, h4 := 0, h5 := 0, h6 := 0 }
  rb := #v[0, 0, 0, 0, 0, 0, 0, 0]
  adcP := 0
  adcT := 0
  adcH := 0
  tfine := 0
  tfv := false
  tOut := 0
  hOut := 0
  pOut := 0
  phase := 0x00#6
  lc := .uninit
  busy := false
  rvalid := false
  err := 0#2
  esticky := false
  params := Config.params
  sensor := []
  transport := []
  script := []
  draws := 0
  history := []
  hostSeen := []

end Sys2Proof.Machine
end

