-- ==== Sys2Proof/Machine/Flags.lean ====
section
/-! DEFINITION. The status flags as the host sees them (spec 10_state.md R35 to R42, 30_encoding.md R96) and the error
codes (60_exceptions.md R270). CORE has no arithmetic condition codes (R40): no operation computes a flag. -/

namespace Sys2Proof.Machine

/-- A one-bit flag as a bit. -/
def flagBit (b : Bool) : BitVec 1 := if b then 1#1 else 0#1

/-- `LC` as a bit: 0 is UNINIT, 1 is READY (R35). -/
def lcBit : Lifecycle → BitVec 1
  | .uninit => 0#1
  | .ready => 1#1

/-- `STATUS` (R42, R96): bits 7:6 read 0, 5:4 `ERR`, 3 `ESTICKY`, 2 `RVALID`, 1 `LC`, 0 `BUSY`. -/
def statusView (s : State) : Byte :=
  0#2 ++ s.err ++ flagBit s.esticky ++ flagBit s.rvalid ++ lcBit s.lc ++ flagBit s.busy

/-- The code that an error leaves in `ERR` (R270); 0 is OK. -/
def errorCode : CmdError → BitVec 2
  | .illegalCommand => 1#2
  | .sequenceError => 2#2
  | .busError => 3#2

/-- The result registers hold the triple of the last GET and may be read (R46, R161). -/
def resultsDefined (s : State) : Bool := s.rvalid && !s.busy

/-- A host's read of a result register (R161): no value unless `RVALID = 1` and `BUSY = 0` (R46). -/
def readResult (s : State) (r : ResultReg) : Option Word :=
  if resultsDefined s then
    match r with
    | .tOut => some s.tOut
    | .hOut => some s.hOut
    | .pOut => some s.pOut
  else none

/-- The Reading as three exact rationals (47_output.md R262). -/
structure Reading where
  temperatureC : Rat
  humidityPctRH : Rat
  pressureHPa : Rat
  deriving DecidableEq, Repr

/-- The Reading of three result words (R105 to R107, R262): `T_OUT` is read as `s32`, the others as `u32`. -/
def readingOf (t h p : Word) : Reading where
  temperatureC := (t.toInt : Rat) / 100
  humidityPctRH := (h.toNat : Rat) / 1024
  pressureHPa := (p.toNat : Rat) / 100

/-- The Reading, defined when `RVALID = 1` and `BUSY = 0` (R262). -/
def reading (s : State) : Option Reading :=
  if resultsDefined s then some (readingOf s.tOut s.hOut s.pOut) else none

/-- The Reading in a floating-point format: `READING_FMT` is OPEN (R263), so the format with its rounding is an
argument. No rule depends on it. -/
def readingIn {F : Type} (fmt : Rat → F) (s : State) : Option (F × F × F) :=
  match reading s with
  | some r => some (fmt r.temperatureC, fmt r.humidityPctRH, fmt r.pressureHPa)
  | none => none

end Sys2Proof.Machine
end

