-- ==== Sys2Proof/Machine/Arith.lean ====
section
/-! DEFINITION. The integer primitives of the three stages (spec 40_arithmetic.md R120 to R130). A word carries the
bits; each operation fixes the signedness it reads them with (R132). Every signed overflow wraps (R121 to R123, D7). -/

namespace Sys2Proof.Machine

/-- `add32` (R121). -/
def add32 (a b : Word) : Word := a + b

/-- `sub32` (R121). -/
def sub32 (a b : Word) : Word := a - b

/-- `mul32` (R122): the low 32 bits of the product. -/
def mul32 (a b : Word) : Word := a * b

/-- `shl32` (R123): zeros shifted in, bits shifted out discarded. -/
def shl32 (a : Word) (n : Nat) : Word := a <<< n

/-- `asr32` (R124): the sign bit is replicated. -/
def asr32 (a : Word) (n : Nat) : Word := a.sshiftRight n

/-- `uadd32` (R125). -/
def uadd32 (a b : Word) : Word := a + b

/-- `usub32` (R125). -/
def usub32 (a b : Word) : Word := a - b

/-- `umul32` (R125). -/
def umul32 (a b : Word) : Word := a * b

/-- `ushl32` (R125). -/
def ushl32 (a : Word) (n : Nat) : Word := a <<< n

/-- `lsr32` (R125): zeros shifted in. -/
def lsr32 (a : Word) (n : Nat) : Word := a >>> n

/-- `udiv32` (R126), used only with a divisor that is not zero. -/
def udiv32 (a b : Word) : Word := a / b

/-- `as_u32` (R127): the same 32 bits read as unsigned. -/
def asU32 (a : Word) : Word := a

/-- `as_s32` (R127): the same 32 bits read as signed. -/
def asS32 (a : Word) : Word := a

/-- A constant of a stage as a word. -/
def const32 (n : Int) : Word := BitVec.ofInt 32 n

/-- Rounding shift (R129): add half of the divisor, then shift arithmetically; `n` is at least 1. -/
def roundShift (x : Word) (n : Nat) : Word := asr32 (add32 x (const32 (2 ^ (n - 1)))) n

/-- The upper bound of the humidity clamp, `100 * 2^22` (R130). -/
def clampHigh : Word := const32 419430400

/-- The clamp of the humidity stage (R130, R128): two signed comparisons, low bound first. -/
def clamp (v : Word) : Word :=
  let w1 := if v.slt (const32 0) then const32 0 else v
  if clampHigh.slt w1 then clampHigh else w1

end Sys2Proof.Machine
end

