-- ==== Sys2Proof/Machine/Operands.lean ====
section
/-! DEFINITION. The operand forms: how coefficients and raw codes are assembled from sensor bytes (spec 30_encoding.md
R97 to R104), how they are widened for the stages (10_state.md R25, R27), and which byte goes to which configuration
register (R108, R170 to R172). -/

namespace Sys2Proof.Machine

/-- Byte i of the bytes a read returned, `b[i]` (R65). -/
def byteAt (b : List Byte) (i : Nat) : Byte := b.getD i 0#8

/-- A little-endian calibration word `b[0] | (b[1] << 8)` (R67, R97). -/
def le16 (b0 b1 : Byte) : Half := b0.setWidth 16 ||| (b1.setWidth 16 <<< 8)

/-- `H4` from the bytes of 0xE4 and 0xE5, both unsigned (R100, D10). -/
def nibbleH4 (e4 e5 : Byte) : Half := (e4.setWidth 16 <<< 4) ||| (e5.setWidth 16 &&& 0x0F#16)

/-- `H5` from the bytes of 0xE6 and 0xE5, both unsigned (R101, D10). -/
def nibbleH5 (e6 e5 : Byte) : Half := (e6.setWidth 16 <<< 4) ||| (e5.setWidth 16 >>> 4)

/-- A 20-bit code from three burst bytes: big-endian, the low nibble of the third byte discarded (R102, R103, C3). -/
def code20 (b0 b1 b2 : Byte) : Code20 :=
  (((b0.setWidth 24 <<< 16) ||| (b1.setWidth 24 <<< 8) ||| b2.setWidth 24) >>> 4).setWidth 20

/-- The 16-bit humidity code from two burst bytes, big-endian (R104). -/
def code16 (b0 b1 : Byte) : Half := (b0.setWidth 16 <<< 8) ||| b1.setWidth 16

/-- `ADC_P` of a burst (R102). -/
def burstP (rb : Vector Byte 8) : Code20 := code20 rb[0] rb[1] rb[2]

/-- `ADC_T` of a burst (R103). -/
def burstT (rb : Vector Byte 8) : Code20 := code20 rb[3] rb[4] rb[5]

/-- `ADC_H` of a burst (R104). -/
def burstH (rb : Vector Byte 8) : Half := code16 rb[6] rb[7]

/-- The burst buffer from the bytes of one 8-byte read (R202). -/
def burstOf (b : List Byte) : Vector Byte 8 :=
  #v[byteAt b 0, byteAt b 1, byteAt b 2, byteAt b 3, byteAt b 4, byteAt b 5, byteAt b 6, byteAt b 7]

/-- A `u8` coefficient widened without change of value (R25). -/
def widenU8 (v : Byte) : Word := v.setWidth 32

/-- An `s8` coefficient widened without change of value (R25). -/
def widenS8 (v : Byte) : Word := v.signExtend 32

/-- A `u16` coefficient or the humidity code widened without change of value (R25, R27). -/
def widenU16 (v : Half) : Word := v.setWidth 32

/-- An `s16` coefficient widened without change of value (R25). -/
def widenS16 (v : Half) : Word := v.signExtend 32

/-- A 20-bit raw code widened without change of value (R27). -/
def widenU20 (v : Code20) : Word := v.setWidth 32

/-- The three configuration registers INIT writes (R61, R108). -/
inductive CfgReg where
  | filter
  | ctrl
  | hum
  deriving DecidableEq, Repr

/-- The register address of a configuration register (R61). -/
def cfgAddr : CfgReg → Byte
  | .filter => 0xF5#8
  | .ctrl => 0xF4#8
  | .hum => 0xF2#8

/-- `cfg(addr)`: the byte INIT writes to a configuration register (R108, R170). -/
def cfgByte (p : Params) : CfgReg → Byte
  | .filter => p.cfgFilter
  | .ctrl => p.cfgCtrlIdle
  | .hum => p.cfgHum

/-- The first register of `CFG_ORDER` (R170). -/
def cfgFirst : CfgOrder → CfgReg
  | .o542 | .o524 => .filter
  | .o452 | .o425 => .ctrl
  | .o254 | .o245 => .hum

/-- The second register of `CFG_ORDER` (R171). -/
def cfgSecond : CfgOrder → CfgReg
  | .o452 | .o254 => .filter
  | .o542 | .o245 => .ctrl
  | .o524 | .o425 => .hum

/-- The third register of `CFG_ORDER` (R172). -/
def cfgThird : CfgOrder → CfgReg
  | .o425 | .o245 => .filter
  | .o524 | .o254 => .ctrl
  | .o542 | .o452 => .hum

end Sys2Proof.Machine
end

