-- ==== Sys2Proof/Machine/Ops.lean ====
section
/-! DEFINITION. The named operations: the sensor register space, the two bus primitives with the transport's answer
(spec 20_memory.md R65, R66, R76 to R79), the move of `PHASE` (41_commands.md R155), raising an error (60_exceptions.md
R279) and the host's reset (70_reset_and_hazards.md R300). -/

namespace Sys2Proof.Machine

/-! ### The sensor register space -/

/-- The content of a register, where the environment has fixed one. This is what a register that is not listed reads
as: no fixed content (entry 6). -/
def Memory.lookup : Memory → Nat → Option Byte
  | [], _ => none
  | (k, v) :: m, a => if k = a then some v else Memory.lookup m a

/-- Fix the content of one register. -/
def Memory.write : Memory → Nat → Byte → Memory
  | [], a, v => [(a, v)]
  | (k, w) :: m, a, v =>
    if a < k then (a, v) :: (k, w) :: m
    else if a = k then (a, v) :: m
    else (k, w) :: Memory.write m a v

/-- Leave the content of one register open. -/
def Memory.forget : Memory → Nat → Memory
  | [], _ => []
  | (k, w) :: m, a => if k = a then m else (k, w) :: Memory.forget m a

/-- All listed addresses are at least `lo` and rise strictly. -/
def Memory.risingFrom : Nat → Memory → Bool
  | _, [] => true
  | lo, (k, _) :: m => decide (lo ≤ k) && Memory.risingFrom (k + 1) m

/-- The canonical form: addresses strictly rising and all below 256 (R60: register addresses have 8 bits). -/
def Memory.wf (m : Memory) : Bool := Memory.risingFrom 0 m && m.all (fun c => decide (c.1 < 256))

/-- The byte that draw number `d` returns for register `a`: the listed content, or a free value (R76, R77). -/
def drawByte (m : Memory) (d a : Nat) : Byte :=
  match m.lookup a with
  | some v => v
  | none => Config.sensorDraw d

/-- The bytes of a read of `n` registers from `a` on: byte i comes from register `a + i` (R65), one draw per byte
(R77). -/
def drawBytes (m : Memory) (d a : Nat) : Nat → List Byte
  | 0 => []
  | n + 1 => drawByte m d a :: drawBytes m (d + 1) (a + 1) n

/-! ### Bus transactions -/

/-- The answer the transport has in store for the next transaction; past the end of its list it is Ok (entry 8). -/
def nextAnswer (s : State) : BusAnswer := s.transport.headD .ok

/-- Let the transport's k-th coming transaction fail, k counted from 1 (`.fail k`, R111). -/
def failNth : Nat → List BusAnswer → List BusAnswer
  | 0, t => t
  | 1, [] => [.fail]
  | 1, _ :: t => .fail :: t
  | k + 2, [] => .ok :: failNth (k + 1) []
  | k + 2, x :: t => x :: failNth (k + 1) t

/-- What the environment holds after one transaction: an answer used up, the transaction recorded (R79). -/
def transacted (tx : Transaction) (s : State) : State :=
  { s with transport := s.transport.tail, history := tx :: s.history }

/-- After a successful read of `n` registers from `addr` on: the bytes recorded, one draw taken per byte. -/
def readOk (addr : Byte) (n : Nat) (s : State) : State :=
  transacted (.read Config.devAddr addr n (some (drawBytes s.sensor s.draws addr.toNat n)))
    { s with draws := s.draws + n }

/-- After a successful write: the register holds `v` (R66). -/
def writeOk (addr v : Byte) (s : State) : State :=
  transacted (.write Config.devAddr addr v true) { s with sensor := s.sensor.write addr.toNat v }

/-- `MemRead(addr, n)` (R65): Ok with n bytes, or (`none`) Fail. -/
def memRead (addr : Byte) (n : Nat) (s : State) : Option (List Byte) × State :=
  match nextAnswer s with
  | .fail => (none, transacted (.read Config.devAddr addr n none) s)
  | .ok => (some (drawBytes s.sensor s.draws addr.toNat n), readOk addr n s)

/-- `MemWrite(addr, 1, v)` (R66): Ok, or (`false`) Fail, and then nothing was written (entry 25). -/
def memWrite (addr v : Byte) (s : State) : Bool × State :=
  match nextAnswer s with
  | .fail => (false, transacted (.write Config.devAddr addr v false) s)
  | .ok => (true, writeOk addr v s)

/-! ### Sequencing and errors -/

/-- `PHASE <- c` (R13, R155). -/
def goPhase (c : PhaseCode) (s : State) : State := { s with phase := c }

/-- `raise E`: error entry (R279). Nothing is saved and there is no vector: the command ends. -/
def raise (e : CmdError) (s : State) : State :=
  { s with err := errorCode e, esticky := true, tfv := false, busy := false, phase := 0x00#6 }

/-- A micro-operation that reads: on Fail it raises BusError and writes no register (R154, R273); on Ok it goes on with
the bytes. -/
def readThen (addr : Byte) (n : Nat) (k : List Byte → State → Outcome) (s : State) : Outcome :=
  match memRead addr n s with
  | (none, s1) => .next (raise .busError s1)
  | (some b, s1) => k b s1

/-- A micro-operation that writes: on Fail it raises BusError (R154, R273); on Ok it goes on. -/
def writeThen (addr v : Byte) (k : State → Outcome) (s : State) : Outcome :=
  match memWrite addr v s with
  | (false, s1) => .next (raise .busError s1)
  | (true, s1) => k s1

/-- The end of a command without error: `ERR <- 0, BUSY <- 0, PHASE <- 0x00` (R191, R260). -/
def endCommand (s : State) : State := { s with err := 0#2, busy := false, phase := 0x00#6 }

/-! ### The fine temperature as an operand -/

/-- `TFINE` as CMPH and CMPP take it. They require `TFV = 1` (R220, R240; R44: 'as a check'); the spec gives them no
effect of their own for `TFV = 0`, so the operand is then a free value and the stage runs (DESIGN CHOICE, entry 13). -/
def tfineOperand (s : State) : Word := if s.tfv then s.tfine else Config.unspecified 32 s.draws

/-- The draws taken by `tfineOperand`: one where `TFV = 0`, none otherwise. -/
def chargeTfine (s : State) : State := { s with draws := if s.tfv then s.draws else s.draws + 1 }

/-! ### Reset -/

/-- How many values `forgetData` takes. -/
def dataRegisters : Nat := 33

/-- Every data register becomes unspecified: a free value, neither zero nor the old content (R300). -/
def forgetData (s : State) : State :=
  let d := s.draws
  { s with
    calT :=
      { t1 := Config.unspecified 16 d
        t2 := Config.unspecified 16 (d + 1)
        t3 := Config.unspecified 16 (d + 2) }
    calP :=
      { p1 := Config.unspecified 16 (d + 3)
        p2 := Config.unspecified 16 (d + 4)
        p3 := Config.unspecified 16 (d + 5)
        p4 := Config.unspecified 16 (d + 6)
        p5 := Config.unspecified 16 (d + 7)
        p6 := Config.unspecified 16 (d + 8)
        p7 := Config.unspecified 16 (d + 9)
        p8 := Config.unspecified 16 (d + 10)
        p9 := Config.unspecified 16 (d + 11) }
    calH :=
      { h1 := Config.unspecified 8 (d + 12)
        h2 := Config.unspecified 16 (d + 13)
        h3 := Config.unspecified 8 (d + 14)
        h4 := Config.unspecified 16 (d + 15)
        h5 := Config.unspecified 16 (d + 16)
        h6 := Config.unspecified 8 (d + 17) }
    rb :=
      #v[Config.unspecified 8 (d + 18), Config.unspecified 8 (d + 19), Config.unspecified 8 (d + 20),
        Config.unspecified 8 (d + 21), Config.unspecified 8 (d + 22), Config.unspecified 8 (d + 23),
        Config.unspecified 8 (d + 24), Config.unspecified 8 (d + 25)]
    adcP := Config.unspecified 20 (d + 26)
    adcT := Config.unspecified 20 (d + 27)
    adcH := Config.unspecified 16 (d + 28)
    tfine := Config.unspecified 32 (d + 29)
    tOut := Config.unspecified 32 (d + 30)
    hOut := Config.unspecified 32 (d + 31)
    pOut := Config.unspecified 32 (d + 32)
    draws := d + dataRegisters }

/-- The host asserts reset (R300): the control state takes its reset values, the data registers become unspecified.
The sensor, the transactions already issued and what the host has read are not touched (R302, R303). -/
def assertReset (s : State) : State :=
  { forgetData s with
    phase := 0x00#6, busy := false, lc := .uninit, rvalid := false, err := 0#2, esticky := false, tfv := false }

end Sys2Proof.Machine
end

