-- ==== Sys2Proof/Machine/Acquire.lean ====
section
/-! DEFINITION. The micro-operations of GET that acquire a sample (spec 43_raw_sample.md R200 to R204). -/

namespace Sys2Proof.Machine

/-- The burst buffer filled (R202). -/
def putBurst (rb : Vector Byte 8) (s : State) : State := { s with rb := rb }

/-- The RawSample written (R203). -/
def putSample (p t : Code20) (h : Half) (s : State) : State := { s with adcP := p, adcT := t, adcH := h }

/-- TRIG (R200): `MemWrite(0xF4, 1, CFG_CTRL_FORCED)`. What the sensor then converts is the sensor's act (R71, R201). -/
def execTrig (s : State) : Outcome :=
  writeThen 0xF4#8 s.params.cfgCtrlForced (fun s1 => .next (goPhase 0x21#6 s1)) s

/-- WAIT (R201): only `PHASE` moves; the delay has no duration (R315). -/
def execWait (s : State) : Outcome := .next (goPhase 0x22#6 s)

/-- RDRAW (R202): one 8-byte burst from 0xF7 into `RB`. -/
def execRdraw (s : State) : Outcome :=
  readThen Config.burstBase Config.nBurst (fun b s1 => .next (goPhase 0x23#6 (putBurst (burstOf b) s1))) s

/-- UNPK (R203): the three raw codes from `RB`; no value is rejected (R204). -/
def execUnpk (s : State) : Outcome :=
  .next (goPhase 0x24#6 (putSample (burstP s.rb) (burstT s.rb) (burstH s.rb) s))

end Sys2Proof.Machine
end

