-- ==== Sys2Proof/Machine/Commands.lean ====
section
/-! DEFINITION. The two commands as dispatch runs them (spec 41_commands.md R150 to R152), IDLE (10_state.md R34), and
the host's reads (R160, R161). -/

namespace Sys2Proof.Machine

/-- INIT accepted: `BUSY <- 1` (R150). -/
def acceptInit (s : State) : State := { s with busy := true }

/-- GET accepted: `BUSY <- 1`, `RVALID <- 0`, `TFV <- 0` (R150). -/
def acceptGet (s : State) : State := { s with busy := true, rvalid := false, tfv := false }

/-- INIT at dispatch (R150): accepted while `LC = UNINIT`, else SequenceError. While `BUSY = 1` the port takes no
command (R150, U4). -/
def execInit (s : State) : Outcome :=
  if s.busy then .refused .commandPortBusy
  else
    match s.lc with
    | .uninit => .next (goPhase 0x01#6 (acceptInit s))
    | .ready => .next (raise .sequenceError s)

/-- GET at dispatch (R150): accepted while `LC = READY`, clearing `RVALID` and `TFV`, else SequenceError. While
`BUSY = 1` the port takes no command (R150, U4). -/
def execGet (s : State) : Outcome :=
  if s.busy then .refused .commandPortBusy
  else
    match s.lc with
    | .ready => .next (goPhase 0x20#6 (acceptGet s))
    | .uninit => .next (raise .sequenceError s)

/-- IDLE: no micro-operation (R34, R94); while `BUSY = 0` CORE has no step (R154), so nothing changes (entry 12). -/
def execIdle (s : State) : Outcome := .next s

/-- The host reads `STATUS`, with no side effect on CORE (R160). -/
def hostReadsStatus (s : State) : State :=
  { s with hostSeen := .status (statusView s) :: s.hostSeen }

/-- The host reads a result register, with no side effect on CORE (R161). -/
def hostReadsResult (r : ResultReg) (s : State) : State :=
  { s with hostSeen := .result r (readResult s r) :: s.hostSeen }

/-- The sensor gives one of its registers a content, or leaves it open (R76). -/
def sensorActs (a : Byte) (v : Option Byte) (s : State) : State :=
  match v with
  | some b => { s with sensor := s.sensor.write a.toNat b }
  | none => { s with sensor := s.sensor.forget a.toNat }

/-- The transport will fail the k-th coming transaction (`.fail k`, R111). -/
def transportWillFail (k : Nat) (s : State) : State :=
  { s with transport := failNth k s.transport }

end Sys2Proof.Machine
end

