-- ==== Sys2Proof/Machine/Humidity.lean ====
section
/-! DEFINITION. The humidity stage (spec 45_humidity.md R220 to R227). Steps 1 to 8 are the spec's default body of the
parameter HUM_CORE (from general knowledge by the spec's own mark G11; entry 20); step 9 is the document's. -/

namespace Sys2Proof.Machine

/-- R221 step 2: the raw code less the offset terms, rounded. -/
def humidityA (adc x : Word) (c : HumCal) : Word :=
  roundShift (sub32 (sub32 (shl32 adc 14) (shl32 (widenS16 c.h4) 20)) (mul32 (widenS16 c.h5) x)) 15

/-- R221 steps 3 to 6: the temperature-dependent gain. -/
def humidityE (x : Word) (c : HumCal) : Word :=
  let b := asr32 (mul32 x (widenS8 c.h6)) 10
  let cc := add32 (asr32 (mul32 x (widenU8 c.h3)) 11) (const32 32768)
  let d := add32 (asr32 (mul32 b cc) 10) (const32 2097152)
  roundShift (mul32 d (widenS16 c.h2)) 14

/-- R221 steps 7 and 8: the product less the quadratic correction. -/
def humidityW (a e : Word) (c : HumCal) : Word :=
  let v := mul32 a e
  let q := asr32 v 15
  sub32 v (asr32 (mul32 (asr32 (mul32 q q) 7) (widenU8 c.h1)) 4)

/-- HUM_CORE, default body (R5, R221 steps 1 to 8). -/
def humidityCore (adcH : Half) (tf : Word) (c : HumCal) : Word :=
  let x := sub32 tf (const32 76800)
  humidityW (humidityA (widenU16 adcH) x c) (humidityE x c) c

/-- R221 step 9, which holds for every HUM_CORE (R222, R223, R226): both clamps, then the shift by 12. -/
def humidityFinish (w : Word) : Word := asU32 (asr32 (clamp w) 12)

/-- The humidity result (R221). -/
def humidityStage (adcH : Half) (tf : Word) (c : HumCal) : Word := humidityFinish (humidityCore adcH tf c)

/-- `H_OUT <- v`. -/
def putHOut (v : Word) (s : State) : State := { s with hOut := v }

/-- CMPH (R221): `H_OUT`. -/
def execCmph (s : State) : Outcome :=
  .next (goPhase 0x26#6 (putHOut (humidityStage s.adcH (tfineOperand s) s.calH) (chargeTfine s)))

end Sys2Proof.Machine
end

