-- ==== Sys2Proof/Machine/Ingest.lean ====
section
/-! DEFINITION. The micro-operations of INIT (spec 42_calibration_ingest.md R170 to R192): three configuration writes,
eighteen coefficient loads, and the end of INIT. Every failing transaction raises BusError (R273). -/

namespace Sys2Proof.Machine

/-- A configuration write of INIT: `MemWrite(a, 1, cfg(a))`, then `PHASE <- next` (R170 to R172, R108). -/
def writeConfig (r : CfgReg) (next : PhaseCode) (s : State) : Outcome :=
  writeThen (cfgAddr r) (cfgByte s.params r) (fun s1 => .next (goPhase next s1)) s

/-- A two-byte coefficient load: one 2-byte read, the little-endian word handed to the register (R69, R97), then
`PHASE <- next`. -/
def loadWord (addr : Byte) (next : PhaseCode) (put : Half → State → State) (s : State) : Outcome :=
  readThen addr 2 (fun b s1 => .next (goPhase next (put (le16 (byteAt b 0) (byteAt b 1)) s1))) s

/-- A one-byte coefficient load (R69, R98), then `PHASE <- next`. -/
def loadByte (addr : Byte) (next : PhaseCode) (put : Byte → State → State) (s : State) : Outcome :=
  readThen addr 1 (fun b s1 => .next (goPhase next (put (byteAt b 0) s1))) s

/-- A load assembled from two one-byte reads, issued in this order (R188, R189): a Fail of the first means the second
is not issued, and a Fail of either writes no register (R273). -/
def loadTwoBytes (first second : Byte) (next : PhaseCode) (put : Byte → Byte → State → State) (s : State) : Outcome :=
  readThen first 1
    (fun b1 s1 => readThen second 1 (fun b2 s2 => .next (goPhase next (put (byteAt b1 0) (byteAt b2 0) s2))) s1) s

/-- `CAL.T1 <- v`. -/
def putT1 (v : Half) (s : State) : State := { s with calT := { s.calT with t1 := v } }

/-- `CAL.T2 <- v`. -/
def putT2 (v : Half) (s : State) : State := { s with calT := { s.calT with t2 := v } }

/-- `CAL.T3 <- v`. -/
def putT3 (v : Half) (s : State) : State := { s with calT := { s.calT with t3 := v } }

/-- `CAL.P1 <- v`. -/
def putP1 (v : Half) (s : State) : State := { s with calP := { s.calP with p1 := v } }

/-- `CAL.P2 <- v`. -/
def putP2 (v : Half) (s : State) : State := { s with calP := { s.calP with p2 := v } }

/-- `CAL.P3 <- v`. -/
def putP3 (v : Half) (s : State) : State := { s with calP := { s.calP with p3 := v } }

/-- `CAL.P4 <- v`. -/
def putP4 (v : Half) (s : State) : State := { s with calP := { s.calP with p4 := v } }

/-- `CAL.P5 <- v`. -/
def putP5 (v : Half) (s : State) : State := { s with calP := { s.calP with p5 := v } }

/-- `CAL.P6 <- v`. -/
def putP6 (v : Half) (s : State) : State := { s with calP := { s.calP with p6 := v } }

/-- `CAL.P7 <- v`. -/
def putP7 (v : Half) (s : State) : State := { s with calP := { s.calP with p7 := v } }

/-- `CAL.P8 <- v`. -/
def putP8 (v : Half) (s : State) : State := { s with calP := { s.calP with p8 := v } }

/-- `CAL.P9 <- v`. -/
def putP9 (v : Half) (s : State) : State := { s with calP := { s.calP with p9 := v } }

/-- `CAL.H1 <- v`. -/
def putH1 (v : Byte) (s : State) : State := { s with calH := { s.calH with h1 := v } }

/-- `CAL.H2 <- v`. -/
def putH2 (v : Half) (s : State) : State := { s with calH := { s.calH with h2 := v } }

/-- `CAL.H3 <- v`. -/
def putH3 (v : Byte) (s : State) : State := { s with calH := { s.calH with h3 := v } }

/-- `CAL.H4 <- v`. -/
def putH4 (v : Half) (s : State) : State := { s with calH := { s.calH with h4 := v } }

/-- `CAL.H5 <- v`. -/
def putH5 (v : Half) (s : State) : State := { s with calH := { s.calH with h5 := v } }

/-- `CAL.H6 <- v`. -/
def putH6 (v : Byte) (s : State) : State := { s with calH := { s.calH with h6 := v } }

/-- WRCFG0 (R170). -/
def execWrcfg0 (s : State) : Outcome := writeConfig (cfgFirst s.params.cfgOrder) 0x02#6 s

/-- WRCFG1 (R171). -/
def execWrcfg1 (s : State) : Outcome := writeConfig (cfgSecond s.params.cfgOrder) 0x03#6 s

/-- WRCFG2 (R172). -/
def execWrcfg2 (s : State) : Outcome := writeConfig (cfgThird s.params.cfgOrder) 0x04#6 s

/-- LDT1 (R173): `CAL.T1`, u16. -/
def execLdt1 (s : State) : Outcome := loadWord 0x88#8 0x05#6 putT1 s

/-- LDT2 (R174): `CAL.T2`, s16. -/
def execLdt2 (s : State) : Outcome := loadWord 0x8A#8 0x06#6 putT2 s

/-- LDT3 (R175): `CAL.T3`, s16. -/
def execLdt3 (s : State) : Outcome := loadWord 0x8C#8 0x07#6 putT3 s

/-- LDP1 (R176): `CAL.P1`, u16. -/
def execLdp1 (s : State) : Outcome := loadWord 0x8E#8 0x08#6 putP1 s

/-- LDP2 (R177): `CAL.P2`, s16. -/
def execLdp2 (s : State) : Outcome := loadWord 0x90#8 0x09#6 putP2 s

/-- LDP3 (R178): `CAL.P3`, s16. -/
def execLdp3 (s : State) : Outcome := loadWord 0x92#8 0x0A#6 putP3 s

/-- LDP4 (R179): `CAL.P4`, s16. -/
def execLdp4 (s : State) : Outcome := loadWord 0x94#8 0x0B#6 putP4 s

/-- LDP5 (R180): `CAL.P5`, s16. -/
def execLdp5 (s : State) : Outcome := loadWord 0x96#8 0x0C#6 putP5 s

/-- LDP6 (R181): `CAL.P6`, s16. -/
def execLdp6 (s : State) : Outcome := loadWord 0x98#8 0x0D#6 putP6 s

/-- LDP7 (R182): `CAL.P7`, s16. -/
def execLdp7 (s : State) : Outcome := loadWord 0x9A#8 0x0E#6 putP7 s

/-- LDP8 (R183): `CAL.P8`, s16. -/
def execLdp8 (s : State) : Outcome := loadWord 0x9C#8 0x0F#6 putP8 s

/-- LDP9 (R184): `CAL.P9`, s16. -/
def execLdp9 (s : State) : Outcome := loadWord 0x9E#8 0x10#6 putP9 s

/-- LDH1 (R185): `CAL.H1`, u8. -/
def execLdh1 (s : State) : Outcome :=
  loadByte 0xA1#8 0x11#6 putH1 s

/-- LDH2 (R186): `CAL.H2`, s16, registers 0xE1 and 0xE2. -/
def execLdh2 (s : State) : Outcome :=
  loadWord 0xE1#8 0x12#6 putH2 s

/-- LDH3 (R187): `CAL.H3`, u8. -/
def execLdh3 (s : State) : Outcome :=
  loadByte 0xE3#8 0x13#6 putH3 s

/-- LDH4 (R188): `CAL.H4`, s16, from 0xE4 and then 0xE5. -/
def execLdh4 (s : State) : Outcome :=
  loadTwoBytes 0xE4#8 0xE5#8 0x14#6 (fun e4 e5 => putH4 (nibbleH4 e4 e5)) s

/-- LDH5 (R189): `CAL.H5`, s16, from 0xE6 and then a fresh read of 0xE5. -/
def execLdh5 (s : State) : Outcome :=
  loadTwoBytes 0xE6#8 0xE5#8 0x15#6 (fun e6 e5 => putH5 (nibbleH5 e6 e5)) s

/-- LDH6 (R190): `CAL.H6`, s8. -/
def execLdh6 (s : State) : Outcome :=
  loadByte 0xE7#8 0x16#6 putH6 s

/-- `LC <- READY`. -/
def becomeReady (s : State) : State := { s with lc := .ready }

/-- RDY (R191): `LC <- READY`, and INIT ends without error. `ESTICKY` is left as it was. -/
def execRdy (s : State) : Outcome := .next (endCommand (becomeReady s))

end Sys2Proof.Machine
end

