-- ==== Sys2Proof/Machine/Output.lean ====
section
/-! DEFINITION. The end of GET (spec 47_output.md R260). -/

namespace Sys2Proof.Machine

/-- `RVALID <- 1`, `TFV <- 0`: the triple is published (R260). -/
def publish (s : State) : State := { s with rvalid := true, tfv := false }

/-- OUT (R260): publish the triple as it stands and end the GET without error. `ESTICKY` and the result registers are
left as they were. -/
def execOut (s : State) : Outcome := .next (endCommand (publish s))

end Sys2Proof.Machine
end

