-- ==== Sys2Proof/Machine/Pressure.lean ====
section
/-! DEFINITION. The pressure stage (spec 46_pressure.md R240 to R248). The guard of step 8 and the two-way division of
step 10 are the document's; the other steps are the spec's default body of the parameter PRES_CORE (from general
knowledge by the spec's own mark G12; entry 20). -/

namespace Sys2Proof.Machine

/-- R241 step 1: `var1`. -/
def pressureX (tf : Word) : Word := sub32 (asr32 tf 1) (const32 64000)

/-- R241 step 2: `hh`. -/
def pressureHH (x : Word) : Word := mul32 (asr32 x 2) (asr32 x 2)

/-- R241 steps 3 to 5: `var2`. -/
def pressureOffset (x : Word) (c : PresCal) : Word :=
  let v3 := mul32 (asr32 (pressureHH x) 11) (widenS16 c.p6)
  let v4 := add32 v3 (shl32 (mul32 x (widenS16 c.p5)) 1)
  add32 (asr32 v4 2) (shl32 (widenS16 c.p4) 16)

/-- R241 step 6: `var1` before the product with `P1`. -/
def pressureScale (x : Word) (c : PresCal) : Word :=
  asr32
    (add32 (asr32 (mul32 (widenS16 c.p3) (asr32 (pressureHH x) 13)) 3) (asr32 (mul32 (widenS16 c.p2) x) 1)) 18

/-- R241 step 7: `var1`, the divisor that the guard tests. -/
def pressureDivisor (x : Word) (c : PresCal) : Word :=
  asr32 (mul32 (add32 (const32 32768) (pressureScale x c)) (widenU16 c.p1)) 15

/-- R241 step 9, the difference before the multiplication. -/
def pressureDifference (adcP : Code20) (var2 : Word) : Word :=
  usub32 (asU32 (sub32 (const32 1048576) (widenU20 adcP))) (asU32 (asr32 var2 12))

/-- R241 step 9: the dividend `p`. -/
def pressureDividend (adcP : Code20) (var2 : Word) : Word :=
  umul32 (pressureDifference adcP var2) (const32 3125)

/-- R241 step 10a: shift first. -/
def divideShiftFirst (p var1 : Word) : Word := udiv32 (ushl32 p 1) (asU32 var1)

/-- R241 step 10b: divide first. -/
def divideFirst (p var1 : Word) : Word := umul32 (udiv32 p (asU32 var1)) (const32 2)

/-- R241 step 10: `p < 2^31`, compared unsigned, takes the shift-first form (R244, C4). -/
def guardedDivide (p var1 : Word) : Word :=
  if p < const32 2147483648 then divideShiftFirst p var1 else divideFirst p var1

/-- R241 steps 11 to 13: the correction of the quotient. -/
def pressureFinish (p : Word) (c : PresCal) : Word :=
  let q := lsr32 p 3
  let var1 := asr32 (mul32 (widenS16 c.p9) (asS32 (lsr32 (umul32 q q) 13))) 12
  let var2 := asr32 (mul32 (asS32 (lsr32 p 2)) (widenS16 c.p8)) 13
  asU32 (add32 (asS32 p) (asr32 (add32 (add32 var1 var2) (widenS16 c.p7)) 4))

/-- The frame of the stage that the document gives (R242, R244, R248), for any divisor, dividend and correction: the
zero guard, then the two-way division. -/
def pressureWith (divisor dividend : Word) (finish : Word → Word) : Word :=
  if divisor = const32 0 then const32 0 else finish (guardedDivide dividend divisor)

/-- The pressure result (R241). -/
def pressureStage (adcP : Code20) (tf : Word) (c : PresCal) : Word :=
  let x := pressureX tf
  pressureWith (pressureDivisor x c) (pressureDividend adcP (pressureOffset x c)) (fun p => pressureFinish p c)

/-- `P_OUT <- v`. -/
def putPOut (v : Word) (s : State) : State := { s with pOut := v }

/-- CMPP (R241): `P_OUT`. The guard raises nothing and sets no flag (R242). -/
def execCmpp (s : State) : Outcome :=
  .next (goPhase 0x27#6 (putPOut (pressureStage s.adcP (tfineOperand s) s.calP) (chargeTfine s)))

end Sys2Proof.Machine
end

