-- ==== Sys2Proof/Machine/Temperature.lean ====
section
/-! DEFINITION. The temperature stage (spec 44_temperature.md R210 to R214). -/

namespace Sys2Proof.Machine

/-- `TFINE` from the raw code and `T1` to `T3`: R211 steps 1 to 6. -/
def temperatureFine (adcT : Code20) (c : TempCal) : Word :=
  let adc := widenU20 adcT
  let t1 := widenU16 c.t1
  let t2 := widenS16 c.t2
  let t3 := widenS16 c.t3
  let a := sub32 (asr32 adc 3) (shl32 t1 1)
  let var1 := asr32 (mul32 a t2) 11
  let d := sub32 (asr32 adc 4) t1
  let sq := mul32 d d
  let var2 := asr32 (mul32 (asr32 sq 12) t3) 14
  add32 var1 var2

/-- The temperature in hundredths of a degree from `TFINE`: R211 step 7, rounding to nearest (R129). -/
def temperatureResult (tf : Word) : Word := roundShift (mul32 tf (const32 5)) 8

/-- `TFINE <- tf`, `TFV <- 1`, `T_OUT <- v`. -/
def putFine (tf v : Word) (s : State) : State := { s with tfine := tf, tfv := true, tOut := v }

/-- CMPT (R211): `TFINE`, `TFV <- 1` and `T_OUT`. -/
def execCmpt (s : State) : Outcome :=
  let tf := temperatureFine s.adcT s.calT
  .next (goPhase 0x25#6 (putFine tf (temperatureResult tf) s))

end Sys2Proof.Machine
end

