-- ==== Sys2Proof/Machine/Dispatch.lean ====
section
/-! DEFINITION. The meaning of each instruction, one arm per constructor. -/

namespace Sys2Proof.Machine

def exec (i : Instr) (s : State) : Host.Outcome State Fault Refusal :=
  match i with
  | .init => Sys2Proof.Machine.execInit s
  | .get => Sys2Proof.Machine.execGet s
  | .idle => Sys2Proof.Machine.execIdle s
  | .wrcfg0 => Sys2Proof.Machine.execWrcfg0 s
  | .wrcfg1 => Sys2Proof.Machine.execWrcfg1 s
  | .wrcfg2 => Sys2Proof.Machine.execWrcfg2 s
  | .ldt1 => Sys2Proof.Machine.execLdt1 s
  | .ldt2 => Sys2Proof.Machine.execLdt2 s
  | .ldt3 => Sys2Proof.Machine.execLdt3 s
  | .ldp1 => Sys2Proof.Machine.execLdp1 s
  | .ldp2 => Sys2Proof.Machine.execLdp2 s
  | .ldp3 => Sys2Proof.Machine.execLdp3 s
  | .ldp4 => Sys2Proof.Machine.execLdp4 s
  | .ldp5 => Sys2Proof.Machine.execLdp5 s
  | .ldp6 => Sys2Proof.Machine.execLdp6 s
  | .ldp7 => Sys2Proof.Machine.execLdp7 s
  | .ldp8 => Sys2Proof.Machine.execLdp8 s
  | .ldp9 => Sys2Proof.Machine.execLdp9 s
  | .ldh1 => Sys2Proof.Machine.execLdh1 s
  | .ldh2 => Sys2Proof.Machine.execLdh2 s
  | .ldh3 => Sys2Proof.Machine.execLdh3 s
  | .ldh4 => Sys2Proof.Machine.execLdh4 s
  | .ldh5 => Sys2Proof.Machine.execLdh5 s
  | .ldh6 => Sys2Proof.Machine.execLdh6 s
  | .rdy => Sys2Proof.Machine.execRdy s
  | .trig => Sys2Proof.Machine.execTrig s
  | .wait => Sys2Proof.Machine.execWait s
  | .rdraw => Sys2Proof.Machine.execRdraw s
  | .unpk => Sys2Proof.Machine.execUnpk s
  | .cmpt => Sys2Proof.Machine.execCmpt s
  | .cmph => Sys2Proof.Machine.execCmph s
  | .cmpp => Sys2Proof.Machine.execCmpp s
  | .out => Sys2Proof.Machine.execOut s

end Sys2Proof.Machine
end

