-- ==== Sys2Proof/Machine/Sequencer.lean ====
section
/-! DEFINITION. Who moves next and what it does: CORE's step (spec 41_commands.md R154), dispatch of a command word
(R150), the host's and the sensor's acts (00_scope.md R17), and the host programs of 30_encoding.md R111 and R112. -/

namespace Sys2Proof.Machine

/-- CORE's turn (R154). While `BUSY = 1` it executes the micro-operation whose code is in `PHASE`; an unused code is
refused by name (R95). While `BUSY = 0` CORE has no step: IDLE. -/
def coreTurn (s : State) : Outcome :=
  if s.busy then
    match decodePhase s.phase with
    | .ok i => exec i s
    | .error _ => .refused (.unusedPhase s.phase)
  else exec .idle s

/-- Dispatch of the command word w, presented while `BUSY = 0` (R150): decoding comes before the lifecycle check
(R278), and a reserved word raises IllegalCommand (R271). -/
def presentCommand (w : Byte) (s : State) : Outcome :=
  match decodeCommand w with
  | .ok i => exec i s
  | .error _ => .next (raise .illegalCommand s)

/-- The first event of the script has happened: the rest is left. -/
def dropEvent (s : State) : State := { s with script := s.script.tail }

/-- One step of the machine: the act that the head of the script names (entry 2). A host that presents a command or
waits for the end of one lets CORE step while `BUSY = 1` (R17, R150). With nothing left in the script it is CORE's
turn. A `hang` tests neither `BUSY` nor `PHASE`: it stalls CORE also where no transaction is pending, while it idles or
is at a micro-operation that issues none, a point that R19 and R159 leave open (DESIGN CHOICE, entry 9). -/
def sequencerStep (s : State) : Outcome :=
  match s.script with
  | [] => coreTurn s
  | .core :: _ => coreTurn (dropEvent s)
  | .command w :: _ => if s.busy then coreTurn s else presentCommand w (dropEvent s)
  | .awaitIdle :: _ => if s.busy then coreTurn s else .next (dropEvent s)
  | .reset :: _ => .next (assertReset (dropEvent s))
  | .readStatus :: _ => .next (hostReadsStatus (dropEvent s))
  | .readResult r :: _ => .next (hostReadsResult r (dropEvent s))
  | .sensor a v :: _ => .next (sensorActs a v (dropEvent s))
  | .failNth k :: _ => .next (transportWillFail k (dropEvent s))
  | .hang :: [] => .next s
  | .hang :: _ :: _ => .next (dropEvent s)

/-- The state in which the next step runs the instruction of this code, whatever the script held before: a command word
stands at the command port with `BUSY = 0`; a phase code stands in `PHASE` with `BUSY = 1`, and it is CORE's turn. IDLE
is the phase code with `BUSY = 0` (R34). -/
def placeCode (cw : CodeWord) (s : State) : State :=
  match cw with
  | .cmd8 w => { s with busy := false, phase := 0x00#6, script := .command w :: s.script }
  | .ph6 c => { s with busy := c != 0x00#6, phase := c, script := .core :: s.script }

/-- `placeCode` of a word of the opcode table; a word of no known width changes nothing. -/
def placeTableWord (s : State) (nbits w : Nat) : State :=
  match tableWord nbits w with
  | some cw => placeCode cw s
  | none => s

/-! ### Host programs -/

/-- One line of a host program (R111), and the pseudo-instruction MEASURE (R112). -/
inductive HostLine where
  | reset
  | init
  | get
  | cmd (w : Byte)
  | sreg (a v : Byte)
  | fail (k : Nat)
  | measure
  deriving DecidableEq, Repr

/-- The events of one line (R111, R112): a command line waits for `BUSY = 0`. -/
def lineEvents : HostLine → List Event
  | .reset => [.reset]
  | .init => [.command 0x01#8, .awaitIdle]
  | .get => [.command 0x02#8, .awaitIdle]
  | .cmd w => [.command w, .awaitIdle]
  | .sreg a v => [.sensor a (some v)]
  | .fail k => [.failNth k]
  | .measure => [.command 0x01#8, .awaitIdle, .command 0x02#8, .awaitIdle]

/-- The events of a host program, its lines executed top to bottom (R111). -/
def programEvents : List HostLine → List Event
  | [] => []
  | l :: ls => lineEvents l ++ programEvents ls

end Sys2Proof.Machine
end

