-- ==== Sys2Proof/Machine/Step.lean ====
section
/-! DEFINITION. The step of the machine, and where an instruction stands that the next step runs. -/

namespace Sys2Proof.Machine

/-- One step of CORE and its environment (spec 00_scope.md R17, 41_commands.md R150, R154). -/
def step (s : State) : Host.Outcome State Fault Refusal := sequencerStep s

/-- The state whose next step runs this word of the opcode table (entries 1 and 3). -/
def State.withFetchWord (s : State) (nbits w : Nat) : State := placeTableWord s nbits w

end Sys2Proof.Machine
end

