-- ==== Sys2Proof/Machine/Reference.lean ====
section
/-! DEFINITION. The three stages once more, over the mathematical integers and straight from the spec's numbered steps
(44_temperature.md R211, 45_humidity.md R221, 46_pressure.md R241): a shift right is a floor division (R124), and every
operation that can leave its type is wrapped into it (R121 to R125). The statements hold the bit-vector stages of the
machine against these. -/

namespace Sys2Proof.Machine

/-- The value in [-2^31, 2^31 - 1] congruent to x modulo 2^32 (R121 to R123; `as_s32`, R127). -/
def wrapS (x : Int) : Int := Int.bmod x 4294967296

/-- The value in [0, 2^32 - 1] congruent to x modulo 2^32 (R125; `as_u32`, R127). -/
def wrapU (x : Int) : Int := x % 4294967296

/-- `floor(x / 2^n)`: `asr32` of an `s32` value (R124), `lsr32` of a `u32` value (R125). -/
def floorShift (x : Int) (n : Nat) : Int := x / 2 ^ n

/-- `TFINE` of R211, steps 1 to 6, from the values of `ADC_T`, `T1`, `T2`, `T3`. -/
def refTemperatureFine (adc t1 t2 t3 : Int) : Int :=
  let a := wrapS (floorShift adc 3 - wrapS (t1 * 2))
  let var1 := floorShift (wrapS (a * t2)) 11
  let d := wrapS (floorShift adc 4 - t1)
  let sq := wrapS (d * d)
  let var2 := floorShift (wrapS (floorShift sq 12 * t3)) 14
  wrapS (var1 + var2)

/-- `T_OUT` of R211, step 7, from `TFINE`. -/
def refTemperatureResult (tf : Int) : Int := floorShift (wrapS (wrapS (tf * 5) + 128)) 8

/-- `w` of R221, steps 1 to 8, from the values of `ADC_H`, `TFINE`, `H1` to `H6`. -/
def refHumidityCore (adc tf h1 h2 h3 h4 h5 h6 : Int) : Int :=
  let x := wrapS (tf - 76800)
  let a := floorShift
    (wrapS (wrapS (wrapS (wrapS (adc * 2 ^ 14) - wrapS (h4 * 2 ^ 20)) - wrapS (h5 * x)) + 16384)) 15
  let b := floorShift (wrapS (x * h6)) 10
  let c := wrapS (floorShift (wrapS (x * h3)) 11 + 32768)
  let d := wrapS (floorShift (wrapS (b * c)) 10 + 2097152)
  let e := floorShift (wrapS (wrapS (d * h2) + 8192)) 14
  let v := wrapS (a * e)
  let q := floorShift v 15
  wrapS (v - floorShift (wrapS (floorShift (wrapS (q * q)) 7 * h1)) 4)

/-- `H_OUT` of R221, step 9, from `w`. -/
def refHumidityFinish (w : Int) : Int :=
  let w1 := if w < 0 then 0 else w
  let w2 := if w1 > 419430400 then 419430400 else w1
  floorShift w2 12

/-- `var1` of R241 after step 6, from `TFINE`, `P2`, `P3`. -/
def refPressureScale (tf p2 p3 : Int) : Int :=
  let x := wrapS (floorShift tf 1 - 64000)
  let h := floorShift x 2
  let hh := wrapS (h * h)
  floorShift (wrapS (floorShift (wrapS (p3 * floorShift hh 13)) 3 + floorShift (wrapS (p2 * x)) 1)) 18

/-- `var1` of R241 after step 7, from `TFINE`, `P1`, `P2`, `P3`. -/
def refPressureDivisor (tf p1 p2 p3 : Int) : Int :=
  floorShift (wrapS (wrapS (32768 + refPressureScale tf p2 p3) * p1)) 15

/-- `var2` of R241 after step 5, from `TFINE`, `P4`, `P5`, `P6`. -/
def refPressureOffset (tf p4 p5 p6 : Int) : Int :=
  let x := wrapS (floorShift tf 1 - 64000)
  let h := floorShift x 2
  let hh := wrapS (h * h)
  let v3 := wrapS (floorShift hh 11 * p6)
  let v4 := wrapS (v3 + wrapS (wrapS (x * p5) * 2))
  wrapS (floorShift v4 2 + wrapS (p4 * 2 ^ 16))

/-- `p` of R241 after step 9, from `ADC_P` and `var2`. -/
def refPressureDividend (adc var2 : Int) : Int :=
  wrapU (wrapU (wrapU (wrapS (1048576 - adc)) - wrapU (floorShift var2 12)) * 3125)

/-- `p` of R241 after step 10, from `p` and `var1` of the steps before. -/
def refPressureQuotient (p var1 : Int) : Int :=
  if p < 2147483648 then wrapU (p * 2) / wrapU var1 else wrapU (p / wrapU var1 * 2)

/-- `p` of R241 after step 13, from `p` after step 10 and `P7`, `P8`, `P9`. -/
def refPressureFinish (p p7 p8 p9 : Int) : Int :=
  let q := floorShift p 3
  let var1 := floorShift (wrapS (p9 * wrapS (floorShift (wrapU (q * q)) 13))) 12
  let var2 := floorShift (wrapS (wrapS (floorShift p 2) * p8)) 13
  wrapU (wrapS (wrapS p + floorShift (wrapS (wrapS (var1 + var2) + p7)) 4))

/-- `P_OUT` of R241 from the values of `ADC_P`, `TFINE`, `P1` to `P9`: the guard of step 8, then the division. -/
def refPressure (adc tf p1 p2 p3 p4 p5 p6 p7 p8 p9 : Int) : Int :=
  let var1 := refPressureDivisor tf p1 p2 p3
  if var1 = 0 then 0
  else
    refPressureFinish
      (refPressureQuotient (refPressureDividend adc (refPressureOffset tf p4 p5 p6)) var1) p7 p8 p9

end Sys2Proof.Machine
end

