-- ==== Sys2Proof/Safety.lean ====
section
/-! DEFINITION. What a sound state of CORE is: the invariants the spec states or derives, in the terms the statements
use, and the spec's functions from sensor bytes to coefficients and from a sample to a Reading. -/

namespace Sys2Proof.Machine

/-! ### The two sequences -/

/-- The codes of the INIT sequence, 0x01 to 0x16 (R94, R156). -/
def initPhase (c : PhaseCode) : Bool := 0x01#6 ≤ c && c ≤ 0x16#6

/-- The codes of the GET sequence, 0x20 to 0x27 (R94, R157). -/
def getPhase (c : PhaseCode) : Bool := 0x20#6 ≤ c && c ≤ 0x27#6

/-- `next` of R155 to R157: the successor of a code in its sequence; RDY and OUT go to IDLE. -/
def nextPhase (c : PhaseCode) : PhaseCode :=
  if c = 0x00#6 ∨ c = 0x16#6 ∨ c = 0x27#6 then 0x00#6 else c + 1#6

/-! ### The functions the spec fixes -/

/-- The temperature coefficients that INIT loads from a calibration image (R97). -/
def calTOf (m : Nat → Byte) : TempCal where
  t1 := le16 (m 0x88) (m 0x89)
  t2 := le16 (m 0x8A) (m 0x8B)
  t3 := le16 (m 0x8C) (m 0x8D)

/-- The pressure coefficients that INIT loads from a calibration image (R97). -/
def calPOf (m : Nat → Byte) : PresCal where
  p1 := le16 (m 0x8E) (m 0x8F)
  p2 := le16 (m 0x90) (m 0x91)
  p3 := le16 (m 0x92) (m 0x93)
  p4 := le16 (m 0x94) (m 0x95)
  p5 := le16 (m 0x96) (m 0x97)
  p6 := le16 (m 0x98) (m 0x99)
  p7 := le16 (m 0x9A) (m 0x9B)
  p8 := le16 (m 0x9C) (m 0x9D)
  p9 := le16 (m 0x9E) (m 0x9F)

/-- The humidity coefficients that INIT loads from a calibration image (R98 to R101). -/
def calHOf (m : Nat → Byte) : HumCal where
  h1 := m 0xA1
  h2 := le16 (m 0xE1) (m 0xE2)
  h3 := m 0xE3
  h4 := nibbleH4 (m 0xE4) (m 0xE5)
  h5 := nibbleH5 (m 0xE6) (m 0xE5)
  h6 := m 0xE7

/-- The registers INIT reads its coefficients from (R61). -/
def calibrationRegister (a : Nat) : Bool :=
  (0x88 ≤ a && a ≤ 0x9F) || a == 0xA1 || (0xE1 ≤ a && a ≤ 0xE7)

/-- The registers of the raw burst (R61). -/
def measurementRegister (a : Nat) : Bool := 0xF7 ≤ a && a ≤ 0xFE

/-- The burst that RDRAW reads from a measurement image (R202). -/
def burstFrom (m : Nat → Byte) : Vector Byte 8 :=
  #v[m 0xF7, m 0xF8, m 0xF9, m 0xFA, m 0xFB, m 0xFC, m 0xFD, m 0xFE]

/-- The environment has fixed the content of every register that `r` selects to what `m` says. -/
def Lists (s : State) (r : Nat → Bool) (m : Nat → Byte) : Prop :=
  ∀ a, r a = true → s.sensor.lookup a = some (m a)

/-- `TFINE` of a burst (R153, R211). -/
def fineOf (t : TempCal) (rb : Vector Byte 8) : Word := temperatureFine (burstT rb) t

/-- `T_OUT` of a burst (R153, R211). -/
def tOutOf (t : TempCal) (rb : Vector Byte 8) : Word := temperatureResult (fineOf t rb)

/-- `H_OUT` of a burst (R153, R221). -/
def hOutOf (t : TempCal) (h : HumCal) (rb : Vector Byte 8) : Word :=
  humidityStage (burstH rb) (fineOf t rb) h

/-- `P_OUT` of a burst (R153, R241). -/
def pOutOf (t : TempCal) (p : PresCal) (rb : Vector Byte 8) : Word :=
  pressureStage (burstP rb) (fineOf t rb) p

/-! ### Invariants -/

/-- The control state is one the sequencer can be in. -/
structure ControlInv (s : State) : Prop where
  /-- R34: while `BUSY = 0`, `PHASE` is IDLE. -/
  idle : s.busy = false → s.phase = 0x00#6
  /-- R34, R95, R154: while `BUSY = 1`, `PHASE` is a code of the running command's sequence; INIT runs while UNINIT
  and GET while READY (R150). -/
  running : s.busy = true →
    (initPhase s.phase = true ∧ s.lc = .uninit) ∨ (getPhase s.phase = true ∧ s.lc = .ready)
  /-- R29, R308: `TFV = 1` exactly from the end of CMPT to the end of the same GET. -/
  fine : s.tfv = true ↔ s.busy = true ∧ 0x25#6 ≤ s.phase ∧ s.phase ≤ 0x27#6
  /-- R37: `RVALID` stands only after a GET that has ended without error. -/
  valid : s.rvalid = true → s.lc = .ready ∧ s.busy = false
  /-- R39: an error in `ERR` has left `ESTICKY` set. -/
  sticky : s.err ≠ 0#2 → s.esticky = true

/-- The data registers hold what the sequence has computed so far. -/
structure DataInv (s : State) : Prop where
  /-- R203: after UNPK the RawSample is that of `RB`. -/
  sample : s.busy = true → 0x24#6 ≤ s.phase → s.phase ≤ 0x27#6 →
    s.adcP = burstP s.rb ∧ s.adcT = burstT s.rb ∧ s.adcH = burstH s.rb
  /-- R308: while `TFV = 1`, `TFINE` and `T_OUT` are what CMPT computed from the burst of the same GET. -/
  fineValue : s.tfv = true → s.tfine = fineOf s.calT s.rb ∧ s.tOut = tOutOf s.calT s.rb
  /-- After CMPH, `H_OUT` is that of the burst. -/
  humValue : s.busy = true → 0x26#6 ≤ s.phase → s.phase ≤ 0x27#6 → s.hOut = hOutOf s.calT s.calH s.rb
  /-- After CMPP, `P_OUT` is that of the burst. -/
  presValue : s.busy = true → s.phase = 0x27#6 → s.pOut = pOutOf s.calT s.calP s.rb
  /-- R37, R46, R153: with `RVALID = 1` the three results are a function of `CAL` and `RB`. -/
  results : s.rvalid = true →
    s.tOut = tOutOf s.calT s.rb ∧ s.hOut = hOutOf s.calT s.calH s.rb ∧ s.pOut = pOutOf s.calT s.calP s.rb
  /-- R23: once loaded, `CAL.H4` and `CAL.H5` hold values in [0, 4095]. -/
  nibbles : s.lc = .ready → s.calH.h4.toNat ≤ 4095 ∧ s.calH.h5.toNat ≤ 4095
  /-- R23, while INIT is past LDH4. -/
  nibbleH4Loaded : s.busy = true → 0x14#6 ≤ s.phase → s.phase ≤ 0x16#6 → s.calH.h4.toNat ≤ 4095
  /-- R23, while INIT is past LDH5. -/
  nibbleH5Loaded : s.busy = true → 0x15#6 ≤ s.phase → s.phase ≤ 0x16#6 → s.calH.h5.toNat ≤ 4095

/-- The accesses CORE makes (R61): a transaction at the device 0x76 (R63), of one of the listed addresses and of the
width given there. -/
def allowedAccess : Transaction → Bool
  | .write dev a _ _ => dev == 0x76#8 && (a == 0xF2#8 || a == 0xF4#8 || a == 0xF5#8)
  | .read dev a n _ =>
    dev == 0x76#8 &&
      ((n == 2 && ((0x88#8 ≤ a && a ≤ 0x9E#8 && a.getLsbD 0 == false) || a == 0xE1#8)) ||
        (n == 1 && (a == 0xA1#8 || (0xE3#8 ≤ a && a ≤ 0xE7#8))) || (n == 8 && a == 0xF7#8))

/-- The bus side: the sensor's list is in canonical form, every transaction so far is one of R61 (R62), and the
parameters meet R5. -/
structure BusInv (s : State) : Prop where
  memory : s.sensor.wf = true
  accesses : s.history.all allowedAccess = true
  params : s.params.wellFormed = true

/-- A sound state. -/
structure Inv (s : State) : Prop where
  control : ControlInv s
  data : DataInv s
  bus : BusInv s

/-! ### What an instruction leaves alone, and the transactions of the two commands -/

/-- Every coefficient register of t holds what it holds in s. -/
def SameCal (s t : State) : Prop := t.calT = s.calT ∧ t.calP = s.calP ∧ t.calH = s.calH

/-- The burst buffer and the RawSample of t are those of s. -/
def SameSample (s t : State) : Prop :=
  t.rb = s.rb ∧ t.adcP = s.adcP ∧ t.adcT = s.adcT ∧ t.adcH = s.adcH

/-- `TFINE` and the result registers of t are those of s. -/
def SameResults (s t : State) : Prop :=
  t.tfine = s.tfine ∧ t.tOut = s.tOut ∧ t.hOut = s.hOut ∧ t.pOut = s.pOut

/-- Every byte of the sensor register space reads in t as in s. -/
def SameMemory (s t : State) : Prop := ∀ a, t.sensor.lookup a = s.sensor.lookup a

/-- What no instruction touches: the parameters, the script, and what the host has seen. -/
def SameOutside (s t : State) : Prop :=
  t.params = s.params ∧ t.script = s.script ∧ t.hostSeen = s.hostSeen

/-- No transaction was made: the answers in store and the history of t are those of s. -/
def NoTransaction (s t : State) : Prop := t.transport = s.transport ∧ t.history = s.history

/-- s after a successful read of these bytes from register `a` on, before the micro-operation's own writes: one answer
used, one draw per byte, the transaction recorded. -/
def afterRead (s : State) (a : Byte) (bytes : List Byte) : State :=
  { s with
    transport := s.transport.tail
    draws := s.draws + bytes.length
    history := .read 0x76#8 a bytes.length (some bytes) :: s.history }

/-- s after a successful write of `v` to register `a`. -/
def afterWrite (s : State) (a v : Byte) : State :=
  { s with
    sensor := s.sensor.write a.toNat v
    transport := s.transport.tail
    history := .write 0x76#8 a v true :: s.history }

/-- The effect of a raised error on CORE, with its code (R279). -/
def ended (s : State) (code : BitVec 2) : State :=
  { s with err := code, esticky := true, tfv := false, busy := false, phase := 0x00#6 }

/-- s after a failed read of `n` registers from `a` on: BusError, and nothing else written (R273). -/
def afterFailedRead (s : State) (a : Byte) (n : Nat) : State :=
  { ended s 3#2 with
    transport := s.transport.tail
    history := .read 0x76#8 a n none :: s.history }

/-- s after a failed write of `v` to register `a`: BusError, and nothing else written (R273). -/
def afterFailedWrite (s : State) (a v : Byte) : State :=
  { ended s 3#2 with
    transport := s.transport.tail
    history := .write 0x76#8 a v false :: s.history }

/-- Instruction i is a two-byte load (R69, R97): its phase code, the first register it reads, its successor, and the
register it writes (`put`) with the word whose low byte came from the lower address. On Fail it ends in BusError. -/
def WordLoad (i : Instr) (code : PhaseCode) (a : Byte) (next : PhaseCode) (put : Half → State → State) : Prop :=
  encode i = .ph6 code ∧
    ∀ s : State,
      (nextAnswer s = .ok →
        exec i s = .next (put
          (drawByte s.sensor (s.draws + 1) (a.toNat + 1) ++ drawByte s.sensor s.draws a.toNat)
          { afterRead s a [drawByte s.sensor s.draws a.toNat, drawByte s.sensor (s.draws + 1) (a.toNat + 1)] with
            phase := next })) ∧
      (nextAnswer s = .fail → exec i s = .next (afterFailedRead s a 2))

/-- Instruction i is a one-byte load (R69, R98), as `WordLoad`. -/
def ByteLoad (i : Instr) (code : PhaseCode) (a : Byte) (next : PhaseCode) (put : Byte → State → State) : Prop :=
  encode i = .ph6 code ∧
    ∀ s : State,
      (nextAnswer s = .ok →
        exec i s = .next (put (drawByte s.sensor s.draws a.toNat)
          { afterRead s a [drawByte s.sensor s.draws a.toNat] with phase := next })) ∧
      (nextAnswer s = .fail → exec i s = .next (afterFailedRead s a 1))

/-- Instruction i loads one coefficient from two one-byte reads, of register `a` and then of register `b` (R188, R189):
`put` gets the two bytes in that order. A Fail of the first read ends it before the second is issued; a Fail of the
second ends it with one read done; in both cases no register is written (R273). -/
def TwoByteLoad (i : Instr) (code : PhaseCode) (a b : Byte) (next : PhaseCode) (put : Byte → Byte → State → State) :
    Prop :=
  encode i = .ph6 code ∧
    ∀ s : State,
      (nextAnswer s = .ok → nextAnswer (afterRead s a [drawByte s.sensor s.draws a.toNat]) = .ok →
        exec i s = .next (put (drawByte s.sensor s.draws a.toNat) (drawByte s.sensor (s.draws + 1) b.toNat)
          { afterRead (afterRead s a [drawByte s.sensor s.draws a.toNat]) b
              [drawByte s.sensor (s.draws + 1) b.toNat] with phase := next })) ∧
      (nextAnswer s = .ok → nextAnswer (afterRead s a [drawByte s.sensor s.draws a.toNat]) = .fail →
        exec i s = .next (afterFailedRead (afterRead s a [drawByte s.sensor s.draws a.toNat]) b 1)) ∧
      (nextAnswer s = .fail → exec i s = .next (afterFailedRead s a 1))

/-- Instruction i writes byte `v s` to register `a s` (R66): its phase code and its successor. On Fail it ends in
BusError and the register is not written. -/
def RegisterWrite (i : Instr) (code : PhaseCode) (a v : State → Byte) (next : PhaseCode) : Prop :=
  encode i = .ph6 code ∧
    ∀ s : State,
      (nextAnswer s = .ok → exec i s = .next { afterWrite s (a s) (v s) with phase := next }) ∧
      (nextAnswer s = .fail → exec i s = .next (afterFailedWrite s (a s) (v s)))

/-- The mark that a raised error leaves (R279). -/
def Raised (t : State) : Prop :=
  t.err ≠ 0#2 ∧ t.esticky = true ∧ t.tfv = false ∧ t.busy = false ∧ t.phase = 0x00#6

/-- The transport answers Ok to everything it has in store. -/
def AllOk (s : State) : Prop := ∀ x ∈ s.transport, x = BusAnswer.ok

/-- One successful read of `n` registers from `a` on, where `m` gives the contents. -/
def readOf (m : Nat → Byte) (a : Byte) (n : Nat) : Transaction :=
  .read Config.devAddr a n (some ((List.range n).map (fun i => m (a.toNat + i))))

/-- One successful configuration write. -/
def configWrite (p : Params) (r : CfgReg) : Transaction :=
  .write Config.devAddr (cfgAddr r) (cfgByte p r) true

/-- The 23 transactions of a complete INIT, in the order issued (R79). -/
def initTransactions (p : Params) (m : Nat → Byte) : List Transaction :=
  [configWrite p (cfgFirst p.cfgOrder), configWrite p (cfgSecond p.cfgOrder), configWrite p (cfgThird p.cfgOrder),
    readOf m 0x88#8 2, readOf m 0x8A#8 2, readOf m 0x8C#8 2, readOf m 0x8E#8 2, readOf m 0x90#8 2, readOf m 0x92#8 2,
    readOf m 0x94#8 2, readOf m 0x96#8 2, readOf m 0x98#8 2, readOf m 0x9A#8 2, readOf m 0x9C#8 2, readOf m 0x9E#8 2,
    readOf m 0xA1#8 1, readOf m 0xE1#8 2, readOf m 0xE3#8 1, readOf m 0xE4#8 1, readOf m 0xE5#8 1, readOf m 0xE6#8 1,
    readOf m 0xE5#8 1, readOf m 0xE7#8 1]

/-- The two transactions of a complete GET, in the order issued (R79). -/
def getTransactions (p : Params) (m : Nat → Byte) : List Transaction :=
  [.write Config.devAddr 0xF4#8 p.cfgCtrlForced true, readOf m 0xF7#8 8]

/-- n steps one after the other, as far as each has a next state. -/
def steps : Nat → State → Outcome
  | 0, s => .next s
  | n + 1, s =>
    match step s with
    | .next t => steps n t
    | .fault r => .fault r
    | .refused r => .refused r

/-! ### The host's side -/

/-- R305: the host may use the result registers. -/
def readingUsable (s : State) : Bool := resultsDefined s && s.err == 0#2

/-- It is CORE's turn, and nothing is taken from the script but a `core` event. -/
def coreMoves (s : State) : Bool :=
  match s.script with
  | [] => true
  | .core :: _ => true
  | .command _ :: _ => s.busy
  | .awaitIdle :: _ => s.busy
  | _ => false

/-- The state in which CORE's turn is taken: a `core` event has been used up. -/
def atTurn (s : State) : State :=
  match s.script with
  | .core :: _ => dropEvent s
  | _ => s

end Sys2Proof.Machine
end

