-- ==== Sys2Proof/Certificates/Slice0/Obligations.lean ====
section
/-! DEFINITION. The statements for the provers: what the spec's numbered rules say of the instructions and of the
machine, in terms of `exec`, `step` and the named operations. -/

open Sys2Proof Sys2Proof.Machine

/-- The table of 10_state.md section 8, its rows that have a value. The data registers' values are the model's choice
(entry 4) and nothing is said of them. -/
def Obligations.ResetLeavesControlState : Prop :=
  State.reset.phase = 0x00#6 ∧ State.reset.busy = false ∧ State.reset.lc = .uninit ∧ State.reset.rvalid = false ∧
    State.reset.err = 0#2 ∧ State.reset.esticky = false ∧ State.reset.tfv = false ∧ statusView State.reset = 0x00#8

/-- R300, R302 and R303: the control state takes its reset values, the data registers become unspecified (free values:
the model's choice, entry 5), and nothing outside CORE changes. -/
def Obligations.ResetEventForgetsData : Prop :=
  ∀ (s : State) (rest : List Event), s.script = .reset :: rest →
    ∃ t : State, step s = .next t ∧
      t.phase = 0x00#6 ∧ t.busy = false ∧ t.lc = .uninit ∧ t.rvalid = false ∧ t.err = 0#2 ∧ t.esticky = false ∧
      t.tfv = false ∧
      t.script = rest ∧ t.sensor = s.sensor ∧ t.transport = s.transport ∧ t.history = s.history ∧
      t.hostSeen = s.hostSeen ∧ t.params = s.params ∧
      (∀ v ∈ [t.calT.t1, t.calT.t2, t.calT.t3, t.calP.p1, t.calP.p2, t.calP.p3, t.calP.p4, t.calP.p5, t.calP.p6,
          t.calP.p7, t.calP.p8, t.calP.p9, t.calH.h2, t.calH.h4, t.calH.h5, t.adcH],
        ∃ n, s.draws ≤ n ∧ v = Config.unspecified 16 n) ∧
      (∀ v ∈ [t.calH.h1, t.calH.h3, t.calH.h6, t.rb[0], t.rb[1], t.rb[2], t.rb[3], t.rb[4], t.rb[5], t.rb[6], t.rb[7]],
        ∃ n, s.draws ≤ n ∧ v = Config.unspecified 8 n) ∧
      (∀ v ∈ [t.adcP, t.adcT], ∃ n, s.draws ≤ n ∧ v = Config.unspecified 20 n) ∧
      (∀ v ∈ [t.tfine, t.tOut, t.hOut, t.pOut], ∃ n, s.draws ≤ n ∧ v = Config.unspecified 32 n)

/-- The two code tables of 30_encoding.md (sections 1 and 2): no code has two meanings, none is dropped, and the
reserved and unused ones are refused by name. -/
def Obligations.EveryCodeHasOneMeaning : Prop :=
  (∀ i : Instr, decode (encode i) = .ok i) ∧
    (∀ (cw : CodeWord) (i : Instr), decode cw = .ok i → cw = encode i) ∧
    (∀ w : Byte, w ≠ 0x01#8 ∧ w ≠ 0x02#8 ↔ decode (.cmd8 w) = .error (.reservedCommand w)) ∧
    (∀ c : PhaseCode, (0x17 ≤ c.toNat ∧ c.toNat ≤ 0x1F) ∨ 0x28 ≤ c.toNat ↔ decode (.ph6 c) = .error (.unusedPhase c))

/-- Codes written out bit by bit from the tables of R91 and R94. -/
def Obligations.DecodesWrittenOutCodes : Prop :=
  decodeCommand 0b00000001#8 = .ok .init ∧ decodeCommand 0b00000010#8 = .ok .get ∧
    decodePhase 0b000000#6 = .ok .idle ∧ decodePhase 0b000010#6 = .ok .wrcfg1 ∧ decodePhase 0b000100#6 = .ok .ldt1 ∧
    decodePhase 0b001111#6 = .ok .ldp9 ∧ decodePhase 0b010011#6 = .ok .ldh4 ∧ decodePhase 0b010110#6 = .ok .rdy ∧
    decodePhase 0b100000#6 = .ok .trig ∧ decodePhase 0b100011#6 = .ok .unpk ∧ decodePhase 0b100100#6 = .ok .cmpt ∧
    decodePhase 0b100101#6 = .ok .cmph ∧ decodePhase 0b100110#6 = .ok .cmpp ∧ decodePhase 0b100111#6 = .ok .out

/-- R154 and R150: one step is one micro-operation, or one dispatch. The script that says who moves is the model's
form (entry 2). -/
def Obligations.StepRunsTheDecodedInstruction : Prop :=
  (∀ (s : State) (i : Instr), s.busy = true → decodePhase s.phase = .ok i →
      (s.script = [] ∨ (∃ w rest, s.script = .command w :: rest) ∨ (∃ rest, s.script = .awaitIdle :: rest) →
        step s = exec i s) ∧
      (∀ rest, s.script = .core :: rest → step s = exec i { s with script := rest })) ∧
    (∀ (s : State) (i : Instr) (w : Byte) (rest : List Event), s.busy = false → s.script = .command w :: rest →
      decodeCommand w = .ok i → step s = exec i { s with script := rest })

/-- R34 and the last sentence of R154, which speak of BUSY = 0. That the first clause also holds with BUSY = 1 is the
model's reading (entry 12, DEDUCED); that the host's script says when it is CORE's turn is its form (entry 2). -/
def Obligations.IdleChangesNothing : Prop :=
  (∀ s : State, exec .idle s = .next s) ∧
    (∀ s : State, s.busy = false → s.script = [] → step s = .next s) ∧
    (∀ (s : State) (rest : List Event), s.busy = false → s.script = .core :: rest →
      step s = .next { s with script := rest })

/-- The dispatch pseudocode of R150 with the priority of R278 and the error entry of R279. The two clauses for BUSY =
1 are the model's choice (entry 11, DESIGN CHOICE): the spec has no transfer there (R150, U4). -/
def Obligations.DispatchFollowsTheTable : Prop :=
  (∀ (s : State) (w : Byte) (rest : List Event), s.busy = false → s.script = .command w :: rest →
      step s = .next
        (if w = 0x01#8 ∧ s.lc = .uninit then { s with script := rest, busy := true, phase := 0x01#6 }
        else if w = 0x02#8 ∧ s.lc = .ready then
          { s with script := rest, busy := true, phase := 0x20#6, rvalid := false, tfv := false }
        else if w = 0x01#8 ∨ w = 0x02#8 then ended { s with script := rest } 2#2
        else ended { s with script := rest } 1#2)) ∧
    (∀ s : State, s.busy = true →
      exec .init s = .refused .commandPortBusy ∧ exec .get s = .refused .commandPortBusy) ∧
    (∀ (s t : State) (w : Byte) (rest : List Event), s.busy = true → s.script = .command w :: rest →
      step s = .next t → t.script = s.script)

/-- The two accepting arms of R150. -/
def Obligations.InitAndGetAreAccepted : Prop :=
  (∀ s : State, s.busy = false → s.lc = .uninit → exec .init s = .next { s with busy := true, phase := 0x01#6 }) ∧
    (∀ s : State, s.busy = false → s.lc = .ready →
      exec .get s = .next { s with busy := true, phase := 0x20#6, rvalid := false, tfv := false })

/-- R92, with the effect that R271 and R272 spell out. -/
def Obligations.RefusedCommandsChangeOnlyErrorState : Prop :=
  ∀ (s : State) (w : Byte) (rest : List Event), s.busy = false → s.script = .command w :: rest →
    (w ≠ 0x01#8 ∧ w ≠ 0x02#8) ∨ (w = 0x01#8 ∧ s.lc = .ready) ∨ (w = 0x02#8 ∧ s.lc = .uninit) →
    ∃ t : State, step s = .next t ∧ NoTransaction s t ∧ SameCal s t ∧ SameSample s t ∧ SameResults s t ∧
      SameMemory s t ∧ t.lc = s.lc ∧ t.rvalid = s.rvalid ∧ t.params = s.params ∧ t.hostSeen = s.hostSeen ∧
      t.script = rest ∧ t.busy = false ∧ t.phase = 0x00#6 ∧ t.tfv = false ∧ t.esticky = true ∧
      (w ≠ 0x01#8 ∧ w ≠ 0x02#8 → t.err = 1#2) ∧ (w = 0x01#8 ∨ w = 0x02#8 → t.err = 2#2)

/-- R170, R171, R172, with the table of the registers and bytes (R108) and that CFG_ORDER is a permutation (R5). In
the Fail arm, that the sensor's register keeps its content is the model's choice (entry 25, DEDUCED): R78 and R273
speak of CORE's registers only. -/
def Obligations.ConfigurationWritesOfInit : Prop :=
  RegisterWrite .wrcfg0 0x01#6 (fun s => cfgAddr (cfgFirst s.params.cfgOrder))
      (fun s => cfgByte s.params (cfgFirst s.params.cfgOrder)) 0x02#6 ∧
    RegisterWrite .wrcfg1 0x02#6 (fun s => cfgAddr (cfgSecond s.params.cfgOrder))
      (fun s => cfgByte s.params (cfgSecond s.params.cfgOrder)) 0x03#6 ∧
    RegisterWrite .wrcfg2 0x03#6 (fun s => cfgAddr (cfgThird s.params.cfgOrder))
      (fun s => cfgByte s.params (cfgThird s.params.cfgOrder)) 0x04#6 ∧
    (∀ o : CfgOrder, [cfgFirst o, cfgSecond o, cfgThird o].Perm [.filter, .ctrl, .hum]) ∧
    [cfgAddr (cfgFirst .o542), cfgAddr (cfgSecond .o542), cfgAddr (cfgThird .o542)] = [0xF5#8, 0xF4#8, 0xF2#8] ∧
    (∀ p : Params, cfgByte p .filter = p.cfgFilter ∧ cfgByte p .ctrl = p.cfgCtrlIdle ∧ cfgByte p .hum = p.cfgHum)

/-- R200, with the constraint of R5. In the Fail arm, that register 0xF4 keeps its content is the model's choice
(entry 25, DEDUCED). -/
def Obligations.TriggerWritesTheForcedByte : Prop :=
  RegisterWrite .trig 0x20#6 (fun _ => 0xF4#8) (fun s => s.params.cfgCtrlForced) 0x21#6 ∧
    State.reset.params.cfgCtrlForced ≠ State.reset.params.cfgCtrlIdle

/-- R173 to R175: phase code, registers read, coefficient, successor, BusError. -/
def Obligations.TemperatureLoads : Prop :=
  WordLoad .ldt1 0x04#6 0x88#8 0x05#6 (fun w s => { s with calT := { s.calT with t1 := w } }) ∧
    WordLoad .ldt2 0x05#6 0x8A#8 0x06#6 (fun w s => { s with calT := { s.calT with t2 := w } }) ∧
    WordLoad .ldt3 0x06#6 0x8C#8 0x07#6 (fun w s => { s with calT := { s.calT with t3 := w } })

/-- R176 to R184: phase code, registers read, coefficient, successor, BusError. -/
def Obligations.PressureLoads : Prop :=
  WordLoad .ldp1 0x07#6 0x8E#8 0x08#6 (fun w s => { s with calP := { s.calP with p1 := w } }) ∧
    WordLoad .ldp2 0x08#6 0x90#8 0x09#6 (fun w s => { s with calP := { s.calP with p2 := w } }) ∧
    WordLoad .ldp3 0x09#6 0x92#8 0x0A#6 (fun w s => { s with calP := { s.calP with p3 := w } }) ∧
    WordLoad .ldp4 0x0A#6 0x94#8 0x0B#6 (fun w s => { s with calP := { s.calP with p4 := w } }) ∧
    WordLoad .ldp5 0x0B#6 0x96#8 0x0C#6 (fun w s => { s with calP := { s.calP with p5 := w } }) ∧
    WordLoad .ldp6 0x0C#6 0x98#8 0x0D#6 (fun w s => { s with calP := { s.calP with p6 := w } }) ∧
    WordLoad .ldp7 0x0D#6 0x9A#8 0x0E#6 (fun w s => { s with calP := { s.calP with p7 := w } }) ∧
    WordLoad .ldp8 0x0E#6 0x9C#8 0x0F#6 (fun w s => { s with calP := { s.calP with p8 := w } }) ∧
    WordLoad .ldp9 0x0F#6 0x9E#8 0x10#6 (fun w s => { s with calP := { s.calP with p9 := w } })

/-- R185, R186, R187, R190. -/
def Obligations.HumidityLoads : Prop :=
  ByteLoad .ldh1 0x10#6 0xA1#8 0x11#6 (fun v s => { s with calH := { s.calH with h1 := v } }) ∧
    WordLoad .ldh2 0x11#6 0xE1#8 0x12#6 (fun w s => { s with calH := { s.calH with h2 := w } }) ∧
    ByteLoad .ldh3 0x12#6 0xE3#8 0x13#6 (fun v s => { s with calH := { s.calH with h3 := v } }) ∧
    ByteLoad .ldh6 0x15#6 0xE7#8 0x16#6 (fun v s => { s with calH := { s.calH with h6 := v } })

/-- R188 and R189, with the order of the reads and R273's two ways to fail. -/
def Obligations.NibbleLoads : Prop :=
  TwoByteLoad .ldh4 0x13#6 0xE4#8 0xE5#8 0x14#6
      (fun e4 e5 s => { s with calH := { s.calH with h4 := 0#4 ++ e4 ++ e5.extractLsb' 0 4 } }) ∧
    TwoByteLoad .ldh5 0x14#6 0xE6#8 0xE5#8 0x15#6
      (fun e6 e5 s => { s with calH := { s.calH with h5 := 0#4 ++ e6 ++ e5.extractLsb' 4 4 } })

/-- R191, R260 and R201. -/
def Obligations.SequenceEndsAndWait : Prop :=
  (encode .rdy = .ph6 0x16#6 ∧ ∀ s : State,
      exec .rdy s = .next { s with lc := .ready, err := 0#2, busy := false, phase := 0x00#6 }) ∧
    (encode .out = .ph6 0x27#6 ∧ ∀ s : State,
      exec .out s = .next { s with rvalid := true, tfv := false, err := 0#2, busy := false, phase := 0x00#6 }) ∧
    (encode .wait = .ph6 0x21#6 ∧ ∀ s : State, exec .wait s = .next { s with phase := 0x22#6 })

/-- R202. -/
def Obligations.BurstFillsTheBuffer : Prop :=
  encode .rdraw = .ph6 0x22#6 ∧
    ∀ s : State,
      (nextAnswer s = .ok → ∃ t : State, exec .rdraw s = .next t ∧
        (∀ i : Fin 8, t.rb[i] = drawByte s.sensor (s.draws + i.val) (0xF7 + i.val)) ∧
        t = { afterRead s 0xF7#8 t.rb.toList with rb := t.rb, phase := 0x23#6 }) ∧
      (nextAnswer s = .fail → exec .rdraw s = .next (afterFailedRead s 0xF7#8 8))

/-- R203, both as the bit layout of R102 to R104 and as the numbers of its pseudocode. -/
def Obligations.UnpackSplitsTheBurst : Prop :=
  encode .unpk = .ph6 0x23#6 ∧
    ∀ s : State, ∃ (p t : Code20) (h : Half),
      exec .unpk s = .next { s with adcP := p, adcT := t, adcH := h, phase := 0x24#6 } ∧
      p = s.rb[0] ++ s.rb[1] ++ s.rb[2].extractLsb' 4 4 ∧ t = s.rb[3] ++ s.rb[4] ++ s.rb[5].extractLsb' 4 4 ∧
      h = s.rb[6] ++ s.rb[7] ∧
      p.toNat = (s.rb[0].toNat * 65536 + s.rb[1].toNat * 256 + s.rb[2].toNat) / 16 ∧
      t.toNat = (s.rb[3].toNat * 65536 + s.rb[4].toNat * 256 + s.rb[5].toNat) / 16 ∧
      h.toNat = s.rb[6].toNat * 256 + s.rb[7].toNat

/-- R211: the bit-vector stage against the integer reading of its numbered steps. -/
def Obligations.CmptFollowsTheFormula : Prop :=
  encode .cmpt = .ph6 0x24#6 ∧
    ∀ s : State, ∃ tf res : Word,
      exec .cmpt s = .next { s with tfine := tf, tfv := true, tOut := res, phase := 0x25#6 } ∧
      tf.toInt = refTemperatureFine s.adcT.toNat s.calT.t1.toNat s.calT.t2.toInt s.calT.t3.toInt ∧
      res.toInt = refTemperatureResult tf.toInt

/-- R221: the bit-vector stage against the integer reading of its numbered steps. -/
def Obligations.CmphFollowsTheFormula : Prop :=
  encode .cmph = .ph6 0x25#6 ∧
    ∀ s : State, s.tfv = true → ∃ h : Word,
      exec .cmph s = .next { s with hOut := h, phase := 0x26#6 } ∧
      (h.toNat : Int) = refHumidityFinish (refHumidityCore s.adcH.toNat s.tfine.toInt s.calH.h1.toNat s.calH.h2.toInt
        s.calH.h3.toNat s.calH.h4.toInt s.calH.h5.toInt s.calH.h6.toInt)

/-- R241: the bit-vector stage against the integer reading of its numbered steps. -/
def Obligations.CmppFollowsTheFormula : Prop :=
  encode .cmpp = .ph6 0x26#6 ∧
    ∀ s : State, s.tfv = true → ∃ p : Word,
      exec .cmpp s = .next { s with pOut := p, phase := 0x27#6 } ∧
      (p.toNat : Int) = refPressure s.adcP.toNat s.tfine.toInt s.calP.p1.toNat s.calP.p2.toInt s.calP.p3.toInt
        s.calP.p4.toInt s.calP.p5.toInt s.calP.p6.toInt s.calP.p7.toInt s.calP.p8.toInt s.calP.p9.toInt

/-- The spec's requirement TFV = 1 (R220, R240) gives no effect for TFV = 0; the free operand is the model's choice
(entry 13). -/
def Obligations.StagesRunOnAFreeFineTemperature : Prop :=
  ∀ s : State, s.tfv = false →
    exec .cmph s = .next { s with
      hOut := humidityStage s.adcH (Config.unspecified 32 s.draws) s.calH, phase := 0x26#6, draws := s.draws + 1 } ∧
    exec .cmpp s = .next { s with
      pOut := pressureStage s.adcP (Config.unspecified 32 s.draws) s.calP, phase := 0x27#6, draws := s.draws + 1 }

/-- R211 corner case (e), and the temperature range of R265. -/
def Obligations.TemperatureIsBounded : Prop :=
  ∀ (adc : Code20) (c : TempCal),
    -1179648 ≤ (temperatureFine adc c).toInt ∧ (temperatureFine adc c).toInt ≤ 1179648 ∧
      -23040 ≤ (temperatureResult (temperatureFine adc c)).toInt ∧
      (temperatureResult (temperatureFine adc c)).toInt ≤ 23040

/-- R223 and R224, for every body of the stage (R226). The third clause takes in TFV = 0, which R220 excludes: that
CMPH runs there is the model's choice (entry 13, DESIGN CHOICE). -/
def Obligations.HumidityIsInRange : Prop :=
  (∀ w : Word, ((humidityFinish w).toNat : Int) = max 0 (min w.toInt 419430400) / 4096) ∧
    (∀ w : Word, (humidityFinish w).toNat ≤ 102400) ∧
    (∀ s : State, ∃ t : State, exec .cmph s = .next t ∧ t.hOut.toNat ≤ 102400)

/-- R242, also for an arbitrary body (R248). -/
def Obligations.ZeroGuardGivesZero : Prop :=
  (∀ (p : Word) (f : Word → Word), pressureWith 0#32 p f = 0#32) ∧
    (∀ s : State, s.busy = true → s.phase = 0x26#6 → s.tfv = true → s.script = [] →
      refPressureDivisor s.tfine.toInt s.calP.p1.toNat s.calP.p2.toInt s.calP.p3.toInt = 0 →
      step s = .next { s with pOut := 0#32, phase := 0x27#6 } ∧
      ∃ t : State, step { s with pOut := 0#32, phase := 0x27#6 } = .next t ∧ t.pOut = 0#32 ∧ t.err = 0#2 ∧
        t.rvalid = true ∧ t.busy = false ∧ t.esticky = s.esticky)

/-- R243. -/
def Obligations.GuardFiresExactlyWhen : Prop :=
  ∀ (x : Word) (c : PresCal),
    -8192 ≤ (pressureScale x c).toInt ∧ (pressureScale x c).toInt ≤ 8191 ∧
      (pressureDivisor x c = 0#32 ↔ c.p1.toNat = 0 ∨ (c.p1.toNat = 1 ∧ (pressureScale x c).toInt < 0))

/-- R244. -/
def Obligations.TwoWayDivision : Prop :=
  ∀ p d : Word, d ≠ 0#32 →
    (p.toNat < 2147483648 →
      guardedDivide p d = divideShiftFirst p d ∧ (guardedDivide p d).toNat = 2 * p.toNat / d.toNat ∧
        (divideFirst p d).toNat ≤ (divideShiftFirst p d).toNat ∧
        (divideShiftFirst p d).toNat ≤ (divideFirst p d).toNat + 1) ∧
    (2147483648 ≤ p.toNat →
      guardedDivide p d = divideFirst p d ∧ (guardedDivide p d).toNat = p.toNat / d.toNat * 2 % 4294967296 ∧
        (2147483648 ≤ p.toNat / d.toNat → d.toNat = 1)) ∧
    (d.toInt < 0 → 2147483648 ≤ d.toNat)

/-- R245, and the two intervals of R246. -/
def Obligations.DividendBoundary : Prop :=
  (∀ (adc : Code20) (v : Word),
      -524286 ≤ (pressureDifference adc v).toInt ∧ (pressureDifference adc v).toInt ≤ 1572864 ∧
        (pressureDifference adc v).toInt = 1048576 - (adc.toNat : Int) - (asr32 v 12).toInt ∧
        (pressureDifference adc v).toNat ≠ 2147483648 ∧ (pressureDividend adc v).toNat ≠ 2147483648) ∧
    (∀ (adc : Code20) (v d : Word), (pressureDifference adc v).toNat ≤ 687194 →
      guardedDivide (pressureDividend adc v) d = divideShiftFirst (pressureDividend adc v) d) ∧
    (∀ (adc : Code20) (v d : Word), 687195 ≤ (pressureDifference adc v).toNat →
      (pressureDifference adc v).toNat ≤ 1374389 →
      guardedDivide (pressureDividend adc v) d = divideFirst (pressureDividend adc v) d)

/-- R121, R123, and the product of R122. -/
def Obligations.SignedPrimitivesWrap : Prop :=
  (∀ a b : Word,
      (add32 a b).toInt = wrapS (a.toInt + b.toInt) ∧ (sub32 a b).toInt = wrapS (a.toInt - b.toInt) ∧
        (mul32 a b).toInt = wrapS (a.toInt * b.toInt)) ∧
    (∀ (a : Word) (n : Nat), 1 ≤ n → n ≤ 31 → (shl32 a n).toInt = wrapS (a.toInt * 2 ^ n)) ∧
    (∀ x : Int, -2147483648 ≤ x → x ≤ 2147483647 → wrapS x = x) ∧
    (∀ x : Int, -2147483648 ≤ wrapS x ∧ wrapS x ≤ 2147483647 ∧ (4294967296 : Int) ∣ wrapS x - x)

/-- R124. -/
def Obligations.ArithmeticShiftIsFloor : Prop :=
  ∀ (a : Word) (n : Nat), 1 ≤ n → n ≤ 31 →
    (asr32 a n).toInt * 2 ^ n ≤ a.toInt ∧ a.toInt < ((asr32 a n).toInt + 1) * 2 ^ n

/-- R125, and the quotient of R126. -/
def Obligations.UnsignedPrimitivesWrap : Prop :=
  (∀ a b : Word,
      ((uadd32 a b).toNat : Int) = ((a.toNat : Int) + b.toNat) % 4294967296 ∧
        ((usub32 a b).toNat : Int) = ((a.toNat : Int) - b.toNat) % 4294967296 ∧
        ((umul32 a b).toNat : Int) = ((a.toNat : Int) * b.toNat) % 4294967296) ∧
    (∀ (a : Word) (n : Nat), 1 ≤ n → n ≤ 31 →
      (ushl32 a n).toNat = a.toNat * 2 ^ n % 4294967296 ∧ (lsr32 a n).toNat = a.toNat / 2 ^ n) ∧
    (∀ a b : Word, b ≠ 0#32 →
      (udiv32 a b).toNat * b.toNat ≤ a.toNat ∧ a.toNat < ((udiv32 a b).toNat + 1) * b.toNat)

/-- R129 where the addition does not wrap, and R130. -/
def Obligations.RoundAndClamp : Prop :=
  (∀ (x : Word) (n : Nat), 1 ≤ n → n ≤ 31 → x.toInt + 2 ^ (n - 1) ≤ 2147483647 →
      2 ^ n * (2 * (roundShift x n).toInt - 1) ≤ 2 * x.toInt ∧
        2 * x.toInt < 2 ^ n * (2 * (roundShift x n).toInt + 1)) ∧
    (∀ v : Word,
      (v.toInt < 0 → (clamp v).toInt = 0) ∧ (419430400 < v.toInt → (clamp v).toInt = 419430400) ∧
        (0 ≤ v.toInt → v.toInt ≤ 419430400 → clamp v = v))

/-- R25 and R9 (with R27 for the raw codes and R127 for the two reinterpretations). -/
def Obligations.OperandsKeepTheirValue : Prop :=
  (∀ v : Byte, (widenU8 v).toInt = v.toNat ∧ (widenS8 v).toInt = v.toInt) ∧
    (∀ v : Half, (widenU16 v).toInt = v.toNat ∧ (widenS16 v).toInt = v.toInt) ∧
    (∀ v : Code20, (widenU20 v).toInt = v.toNat) ∧
    (∀ a : Word, ((asU32 a).toNat : Int) = wrapU a.toInt ∧ (asS32 a).toInt = wrapS a.toNat)

/-- R100 to R104, with the word order of R97. -/
def Obligations.ByteAssembly : Prop :=
  (∀ e4 e5 e6 : Byte,
      nibbleH4 e4 e5 = 0#4 ++ e4 ++ e5.extractLsb' 0 4 ∧ nibbleH5 e6 e5 = 0#4 ++ e6 ++ e5.extractLsb' 4 4 ∧
        (nibbleH4 e4 e5).toNat ≤ 4095 ∧ (nibbleH5 e6 e5).toNat ≤ 4095 ∧
        (nibbleH4 e4 e5).toNat = e4.toNat * 16 + e5.toNat % 16 ∧
        (nibbleH5 e6 e5).toNat = e6.toNat * 16 + e5.toNat / 16) ∧
    (∀ rb : Vector Byte 8,
      burstP rb = rb[0] ++ rb[1] ++ rb[2].extractLsb' 4 4 ∧ burstT rb = rb[3] ++ rb[4] ++ rb[5].extractLsb' 4 4 ∧
        burstH rb = rb[6] ++ rb[7]) ∧
    (∀ b0 b1 : Byte, le16 b0 b1 = b1 ++ b0 ∧ (le16 b0 b1).toNat = b0.toNat + 256 * b1.toNat) ∧
    nibbleH4 0x12#8 0x34#8 = 0x124#16 ∧ nibbleH5 0x56#8 0x34#8 = 0x563#16

/-- R96. -/
def Obligations.StatusLayout : Prop :=
  (∀ s : State,
      (statusView s).getLsbD 0 = s.busy ∧ ((statusView s).getLsbD 1 = true ↔ s.lc = .ready) ∧
        (statusView s).getLsbD 2 = s.rvalid ∧ (statusView s).getLsbD 3 = s.esticky ∧
        (statusView s).extractLsb' 4 2 = s.err ∧ (statusView s).getLsbD 6 = false ∧
        (statusView s).getLsbD 7 = false) ∧
    statusView State.reset = 0x00#8

/-- R160, R161 and R46. R46 has a model give an undefined read no value; that every read is recorded in hostSeen, and
'no value' there as none, is the model's form (entry 14, DESIGN CHOICE). -/
def Obligations.HostReadsHaveNoSideEffect : Prop :=
  (∀ (s : State) (rest : List Event), s.script = .readStatus :: rest →
      step s = .next { s with script := rest, hostSeen := .status (statusView s) :: s.hostSeen }) ∧
    (∀ (s : State) (r : ResultReg) (rest : List Event), s.script = .readResult r :: rest →
      ∃ v : Option Word, step s = .next { s with script := rest, hostSeen := .result r v :: s.hostSeen } ∧
        (s.busy = false → s.rvalid = true →
          (r = .tOut → v = some s.tOut) ∧ (r = .hOut → v = some s.hOut) ∧ (r = .pOut → v = some s.pOut)) ∧
        (s.busy = true ∨ s.rvalid = false → v = none))

/-- R262 with R46, and the ranges of R265. -/
def Obligations.ReadingIsExactAndInRange : Prop :=
  (∀ s : State, s.busy = false → s.rvalid = true → ∃ r : Reading, reading s = some r ∧
      r.temperatureC * 100 = (s.tOut.toInt : Rat) ∧ r.humidityPctRH * 1024 = (s.hOut.toNat : Rat) ∧
      r.pressureHPa * 100 = (s.pOut.toNat : Rat)) ∧
    (∀ s : State, s.busy = true ∨ s.rvalid = false → reading s = none) ∧
    (∀ (s : State) (r : Reading), ControlInv s → DataInv s → reading s = some r →
      -(23040 : Rat) / 100 ≤ r.temperatureC ∧ r.temperatureC ≤ (23040 : Rat) / 100 ∧
        0 ≤ r.humidityPctRH ∧ r.humidityPctRH ≤ 100 ∧ 0 ≤ r.pressureHPa ∧
        r.pressureHPa ≤ (4294967295 : Rat) / 100)

/-- R155 to R157, with R154 for the failing ones. Every micro-operation completes in every state; that CMPH and CMPP
do so, and advance PHASE, where TFV = 0 is the model's choice (entry 13, DESIGN CHOICE), since R220 and R240 require
TFV = 1. That the successor does not depend on PHASE is entry 21 (DEDUCED). -/
def Obligations.PhaseMovesToItsSuccessor : Prop :=
  ∀ (i : Instr) (c : PhaseCode) (s : State), encode i = .ph6 c → c ≠ 0x00#6 →
    ∃ t : State, exec i s = .next t ∧
      (t.phase = nextPhase c ∨ (Raised t ∧ t.err = 3#2 ∧ (nextAnswer s = .fail ∨ s.transport.tail.headD .ok = .fail)))

/-- The column 'written by' of the access table (R44), for the data registers: the frame of every instruction. -/
def Obligations.OnlyTheTableWritesRegisters : Prop :=
  ∀ (i : Instr) (s t : State), exec i s = .next t →
    ((i ≠ .ldt1 → t.calT.t1 = s.calT.t1) ∧
      (i ≠ .ldt2 → t.calT.t2 = s.calT.t2) ∧
      (i ≠ .ldt3 → t.calT.t3 = s.calT.t3) ∧
      (i ≠ .ldp1 → t.calP.p1 = s.calP.p1) ∧
      (i ≠ .ldp2 → t.calP.p2 = s.calP.p2) ∧
      (i ≠ .ldp3 → t.calP.p3 = s.calP.p3) ∧
      (i ≠ .ldp4 → t.calP.p4 = s.calP.p4) ∧
      (i ≠ .ldp5 → t.calP.p5 = s.calP.p5) ∧
      (i ≠ .ldp6 → t.calP.p6 = s.calP.p6) ∧
      (i ≠ .ldp7 → t.calP.p7 = s.calP.p7) ∧
      (i ≠ .ldp8 → t.calP.p8 = s.calP.p8) ∧
      (i ≠ .ldp9 → t.calP.p9 = s.calP.p9) ∧
      (i ≠ .ldh1 → t.calH.h1 = s.calH.h1) ∧
      (i ≠ .ldh2 → t.calH.h2 = s.calH.h2) ∧
      (i ≠ .ldh3 → t.calH.h3 = s.calH.h3) ∧
      (i ≠ .ldh4 → t.calH.h4 = s.calH.h4) ∧
      (i ≠ .ldh5 → t.calH.h5 = s.calH.h5) ∧
      (i ≠ .ldh6 → t.calH.h6 = s.calH.h6)) ∧
      (i ≠ .rdraw → t.rb = s.rb) ∧
      (i ≠ .unpk → t.adcP = s.adcP ∧ t.adcT = s.adcT ∧ t.adcH = s.adcH) ∧
      (i ≠ .cmpt → t.tfine = s.tfine ∧ t.tOut = s.tOut) ∧
      (i ≠ .cmph → t.hOut = s.hOut) ∧ (i ≠ .cmpp → t.pOut = s.pOut) ∧ SameOutside s t

/-- The column 'written by' of the access table (R44), for the flags. -/
def Obligations.FlagsChangeOnlyAsListed : Prop :=
  ∀ (i : Instr) (s t : State), exec i s = .next t →
    (t.lc = s.lc ∨ (i = .rdy ∧ t.lc = .ready)) ∧
      (t.rvalid = s.rvalid ∨ (i = .out ∧ t.rvalid = true) ∨ (i = .get ∧ t.rvalid = false)) ∧
      (t.tfv = s.tfv ∨ (i = .cmpt ∧ t.tfv = true) ∨ ((i = .get ∨ i = .out) ∧ t.tfv = false) ∨ Raised t) ∧
      (t.busy = s.busy ∨ ((i = .init ∨ i = .get) ∧ t.busy = true) ∨ ((i = .rdy ∨ i = .out) ∧ t.busy = false) ∨
        Raised t) ∧
      (t.err = s.err ∨ ((i = .rdy ∨ i = .out) ∧ t.err = 0#2) ∨ Raised t) ∧
      (t.esticky = s.esticky ∨ Raised t)

/-- The memory frame of every instruction (R61, R62, R66): the stored address is computed as the meaning computes it.
-/
def Obligations.OnlyConfigurationWritesTouchMemory : Prop :=
  (∀ (i : Instr) (s t : State) (a : Nat), exec i s = .next t →
      (i = .wrcfg0 → a ≠ (cfgAddr (cfgFirst s.params.cfgOrder)).toNat) →
      (i = .wrcfg1 → a ≠ (cfgAddr (cfgSecond s.params.cfgOrder)).toNat) →
      (i = .wrcfg2 → a ≠ (cfgAddr (cfgThird s.params.cfgOrder)).toNat) →
      (i = .trig → a ≠ 0xF4) → t.sensor.lookup a = s.sensor.lookup a) ∧
    (∀ s : State, nextAnswer s = .ok →
      (∃ t, exec .wrcfg0 s = .next t ∧ t.sensor.lookup (cfgAddr (cfgFirst s.params.cfgOrder)).toNat =
        some (cfgByte s.params (cfgFirst s.params.cfgOrder))) ∧
      (∃ t, exec .wrcfg1 s = .next t ∧ t.sensor.lookup (cfgAddr (cfgSecond s.params.cfgOrder)).toNat =
        some (cfgByte s.params (cfgSecond s.params.cfgOrder))) ∧
      (∃ t, exec .wrcfg2 s = .next t ∧ t.sensor.lookup (cfgAddr (cfgThird s.params.cfgOrder)).toNat =
        some (cfgByte s.params (cfgThird s.params.cfgOrder))) ∧
      (∃ t, exec .trig s = .next t ∧ t.sensor.lookup 0xF4 = some s.params.cfgCtrlForced))

/-- That the invariants hold after reset. -/
def Obligations.ResetStateIsSound : Prop :=
  Inv State.reset

/-- R29, R34, R37, R39, R95, R308: the control invariant. -/
def Obligations.StepKeepsControl : Prop :=
  ∀ s t : State, ControlInv s → step s = .next t → ControlInv t

/-- R308, R153, R46, R23: the data invariant, which makes the results a pure function of the coefficients and the
burst. -/
def Obligations.StepKeepsData : Prop :=
  ∀ s t : State, ControlInv s → DataInv s → step s = .next t → DataInv t

/-- R61, R62, R63, R69, and the canonical form of the sensor's list. -/
def Obligations.StepKeepsBus : Prop :=
  ∀ s t : State, BusInv s → step s = .next t → BusInv t

/-- R95 and R270 to R277: nothing but the three errors ends a command, and each is a next state. The refusal by name
is the model's form of a code that selects nothing (entry 16, DESIGN CHOICE). -/
def Obligations.SoundStatesAlwaysStep : Prop :=
  (∀ s : State, ControlInv s → ∃ t : State, step s = .next t) ∧
    (∀ s : State, s.busy = true → s.script = [] →
      (0x17 ≤ s.phase.toNat ∧ s.phase.toNat ≤ 0x1F) ∨ 0x28 ≤ s.phase.toNat →
      step s = .refused (.unusedPhase s.phase))

/-- R35 and R282, and R43. -/
def Obligations.LifecycleMovesOnlyByRdyAndReset : Prop :=
  ∀ s t : State, step s = .next t →
    (t.lc ≠ s.lc →
      (t.lc = .ready ∧ s.busy = true ∧ s.phase = 0x16#6) ∨ (t.lc = .uninit ∧ ∃ rest, s.script = .reset :: rest)) ∧
    t.params = s.params

/-- R20 and R24. -/
def Obligations.CoefficientsAreImmutableWhenReady : Prop :=
  ∀ s t : State, ControlInv s → s.lc = .ready → (∀ rest, s.script ≠ .reset :: rest) → step s = .next t → SameCal s t

/-- R39. -/
def Obligations.StickyErrorFlag : Prop :=
  ∀ s t : State, step s = .next t → (∀ rest, s.script ≠ .reset :: rest) →
    ((s.busy = true ∧ t.busy = false ∧ t.err ≠ 0#2) ∨
        (s.busy = false ∧ t.busy = false ∧ t.err ≠ 0#2 ∧ ∃ w rest, s.script = .command w :: rest) →
      t.esticky = true) ∧
    (s.esticky = true → t.esticky = true)

/-- R271, R272, R273 ('and only by it') and R274 to R277. -/
def Obligations.ErrorsComeFromTheirCauses : Prop :=
  ∀ s t : State, step s = .next t → t.err ≠ s.err →
    (t.err = 1#2 → s.busy = false ∧ ∃ w rest, s.script = .command w :: rest ∧ w ≠ 0x01#8 ∧ w ≠ 0x02#8) ∧
      (t.err = 2#2 → s.busy = false ∧ ∃ w rest, s.script = .command w :: rest ∧
        ((w = 0x01#8 ∧ s.lc = .ready) ∨ (w = 0x02#8 ∧ s.lc = .uninit))) ∧
      (t.err = 3#2 → s.busy = true ∧
        ((0x01#6 ≤ s.phase ∧ s.phase ≤ 0x15#6) ∨ s.phase = 0x20#6 ∨ s.phase = 0x22#6) ∧
        (nextAnswer s = .fail ∨ s.transport.tail.headD .ok = .fail)) ∧
      (t.err = 0#2 → (∃ rest, s.script = .reset :: rest) ∨ (s.busy = true ∧ (s.phase = 0x16#6 ∨ s.phase = 0x27#6)))

/-- R76, the directives of R111, and R314. That these are events of a script is the model's form (entries 2 and 9).
R314 and R19 speak of a pending transaction; that the event stalls CORE in every state is the model's choice (entry 9,
DESIGN CHOICE). -/
def Obligations.SensorAndTransportEvents : Prop :=
  (∀ (s : State) (a : Byte) (v : Option Byte) (rest : List Event), s.script = .sensor a v :: rest →
      s.sensor.wf = true →
      ∃ m : Memory, step s = .next { s with script := rest, sensor := m } ∧ m.wf = true ∧ m.lookup a.toNat = v ∧
        ∀ b, b ≠ a.toNat → m.lookup b = s.sensor.lookup b) ∧
    (∀ (s : State) (k : Nat) (rest : List Event), s.script = .failNth (k + 1) :: rest →
      ∃ l : List BusAnswer, step s = .next { s with script := rest, transport := l } ∧
        ∀ j, l.getD j .ok = if j = k then .fail else s.transport.getD j .ok) ∧
    (∀ (s : State) (n : Nat), s.script = [.hang] → steps n s = .next s)

/-- R151 with the sequence of R156, the layout of R97 to R101 and the history of R79. The order of the transactions is
the spec's own decision D15, on which R79 says no claim should rest. The run is undisturbed: one command in the
script, every answer Ok, and no act of the sensor (entries 2, 7 and 8). -/
def Obligations.InitLoadsTheCalibration : Prop :=
  ∀ (s : State) (m : Nat → Byte), s.busy = false → s.lc = .uninit → s.script = [.command 0x01#8] → AllOk s →
    Lists s calibrationRegister m →
    steps 23 s = .next { s with
      calT := calTOf m
      calP := calPOf m
      calH := calHOf m
      lc := .ready
      busy := false
      phase := 0x00#6
      err := 0#2
      script := []
      sensor :=
        ((s.sensor.write (cfgAddr (cfgFirst s.params.cfgOrder)).toNat
              (cfgByte s.params (cfgFirst s.params.cfgOrder))).write
            (cfgAddr (cfgSecond s.params.cfgOrder)).toNat (cfgByte s.params (cfgSecond s.params.cfgOrder))).write
          (cfgAddr (cfgThird s.params.cfgOrder)).toNat (cfgByte s.params (cfgThird s.params.cfgOrder))
      transport := s.transport.drop 23
      draws := s.draws + 33
      history := (initTransactions s.params m).reverse ++ s.history }

/-- R152 with the sequence of R157 and the history of R79. The run is undisturbed: one command in the script, every
answer Ok, and no act of the sensor (entries 2, 7 and 8). -/
def Obligations.GetComputesTheReading : Prop :=
  ∀ (s : State) (m : Nat → Byte), s.busy = false → s.lc = .ready → s.script = [.command 0x02#8] → AllOk s →
    Lists s measurementRegister m →
    steps 9 s = .next { s with
      rb := burstFrom m
      adcP := burstP (burstFrom m)
      adcT := burstT (burstFrom m)
      adcH := burstH (burstFrom m)
      tfine := fineOf s.calT (burstFrom m)
      tfv := false
      tOut := tOutOf s.calT (burstFrom m)
      hOut := hOutOf s.calT s.calH (burstFrom m)
      pOut := pOutOf s.calT s.calP (burstFrom m)
      rvalid := true
      busy := false
      phase := 0x00#6
      err := 0#2
      script := []
      sensor := s.sensor.write 0xF4 s.params.cfgCtrlForced
      transport := s.transport.drop 2
      draws := s.draws + 8
      history := (getTransactions s.params m).reverse ++ s.history }

/-- R153, for undisturbed GETs (entries 2, 7 and 8). GETs with acts of the host or the sensor in between are covered
by the clause `results` of DataInv in StepKeepsData. -/
def Obligations.GetIsAPureFunction : Prop :=
  ∀ (s₁ s₂ : State) (m : Nat → Byte),
    (s₁.busy = false ∧ s₁.lc = .ready ∧ s₁.script = [.command 0x02#8] ∧ AllOk s₁ ∧ Lists s₁ measurementRegister m) →
    (s₂.busy = false ∧ s₂.lc = .ready ∧ s₂.script = [.command 0x02#8] ∧ AllOk s₂ ∧ Lists s₂ measurementRegister m) →
    SameCal s₁ s₂ →
    ∃ t₁ t₂ : State, steps 9 s₁ = .next t₁ ∧ steps 9 s₂ = .next t₂ ∧
      t₁.rvalid = true ∧ t₂.rvalid = true ∧ t₁.tOut = t₂.tOut ∧ t₁.hOut = t₂.hOut ∧ t₁.pOut = t₂.pOut

/-- R273, after a BusError in GET where RDRAW failed. -/
def Obligations.FailedBurstEndsTheGet : Prop :=
  ∀ (s : State) (rest : List BusAnswer), s.busy = false → s.lc = .ready → s.script = [.command 0x02#8] →
    s.transport = .ok :: .fail :: rest →
    steps 4 s = .next { s with
      err := 3#2
      esticky := true
      rvalid := false
      tfv := false
      busy := false
      phase := 0x00#6
      script := []
      sensor := s.sensor.write 0xF4 s.params.cfgCtrlForced
      transport := rest
      history := .read 0x76#8 0xF7#8 8 none :: .write 0x76#8 0xF4#8 s.params.cfgCtrlForced true :: s.history }

/-- R273, after a BusError in INIT, and R281 (recovery). For PHASE 0x01 to 0x03 SameMemory says that a failed write
leaves the sensor's register as it was: the model's choice (entry 25, DEDUCED). A Fail of the second read of LDH4 or
LDH5 is not in this statement; NibbleLoads covers it. -/
def Obligations.FailedInitCanBeRepeated : Prop :=
  ∀ s : State, ControlInv s → s.busy = true → 0x01#6 ≤ s.phase → s.phase ≤ 0x15#6 → s.script = [] →
    nextAnswer s = .fail →
    ∃ t : State, step s = .next t ∧ Raised t ∧ t.err = 3#2 ∧ t.lc = .uninit ∧ SameCal s t ∧ SameMemory s t ∧
      ∃ u : State, step { t with script := [.command 0x01#8] } = .next u ∧ u.busy = true ∧ u.phase = 0x01#6 ∧
        u.lc = .uninit ∧ SameCal t u
end

