-- ==== Sys2Proof/Laws/Memory.lean ====
section
/-! SUPPORT. The sensor register space: what a read gives after each memory operation, and that every memory operation
keeps the canonical form. -/

namespace Sys2Proof.Machine

theorem lookup_write_same (m : Memory) (a : Nat) (v : Byte) : (m.write a v).lookup a = some v := by
  induction m with
  | nil => simp [Memory.write, Memory.lookup]
  | cons c m ih =>
    obtain ⟨k, w⟩ := c
    simp only [Memory.write]
    split
    · simp [Memory.lookup]
    · split
      · simp [Memory.lookup]
      · rename_i h
        simp [Memory.lookup, Ne.symm h, ih]

theorem lookup_write_other (m : Memory) (a b : Nat) (v : Byte) (h : b ≠ a) :
    (m.write a v).lookup b = m.lookup b := by
  induction m with
  | nil => simp [Memory.write, Memory.lookup, h.symm]
  | cons c m ih =>
    obtain ⟨k, w⟩ := c
    simp only [Memory.write]
    split
    · simp [Memory.lookup, h.symm]
    · split
      · rename_i hk
        subst hk
        simp [Memory.lookup, h.symm]
      · simp [Memory.lookup, ih]

theorem risingFrom_le {lo lo' : Nat} {m : Memory} (h : m.risingFrom lo = true) (hle : lo' ≤ lo) :
    m.risingFrom lo' = true := by
  cases m with
  | nil => rfl
  | cons c m =>
    obtain ⟨k, w⟩ := c
    simp only [Memory.risingFrom, Bool.and_eq_true, decide_eq_true_eq] at h ⊢
    exact ⟨by omega, h.2⟩

theorem risingFrom_write {lo a : Nat} {m : Memory} (v : Byte) (h : m.risingFrom lo = true) (ha : lo ≤ a) :
    (m.write a v).risingFrom lo = true := by
  induction m generalizing lo with
  | nil => simp [Memory.write, Memory.risingFrom, ha]
  | cons c m ih =>
    obtain ⟨k, w⟩ := c
    simp only [Memory.risingFrom, Bool.and_eq_true, decide_eq_true_eq] at h
    simp only [Memory.write]
    split
    · simp only [Memory.risingFrom, Bool.and_eq_true, decide_eq_true_eq]
      exact ⟨ha, by omega, h.2⟩
    · split
      · rename_i hk
        subst hk
        simpa [Memory.risingFrom, ha] using h.2
      · simp only [Memory.risingFrom, Bool.and_eq_true, decide_eq_true_eq]
        exact ⟨h.1, ih h.2 (by omega)⟩

theorem risingFrom_forget {lo : Nat} {m : Memory} (a : Nat) (h : m.risingFrom lo = true) :
    (m.forget a).risingFrom lo = true := by
  induction m generalizing lo with
  | nil => rfl
  | cons c m ih =>
    obtain ⟨k, w⟩ := c
    simp only [Memory.risingFrom, Bool.and_eq_true, decide_eq_true_eq] at h
    simp only [Memory.forget]
    split
    · exact risingFrom_le h.2 (by omega)
    · simp only [Memory.risingFrom, Bool.and_eq_true, decide_eq_true_eq]
      exact ⟨h.1, ih h.2⟩

theorem all_write {p : Host.Cell → Bool} {m : Memory} {a : Nat} {v : Byte} (h : m.all p = true)
    (ha : p (a, v) = true) : (m.write a v).all p = true := by
  induction m with
  | nil => simpa [Memory.write] using ha
  | cons c m ih =>
    obtain ⟨k, w⟩ := c
    simp only [List.all_cons, Bool.and_eq_true] at h
    simp only [Memory.write]
    split
    · simp [ha, h.1, h.2]
    · split
      · simp [ha, h.2]
      · simp [h.1, ih h.2]

theorem all_forget {p : Host.Cell → Bool} {m : Memory} (a : Nat) (h : m.all p = true) :
    (m.forget a).all p = true := by
  induction m with
  | nil => simp [Memory.forget]
  | cons c m ih =>
    obtain ⟨k, w⟩ := c
    simp only [List.all_cons, Bool.and_eq_true] at h
    simp only [Memory.forget]
    split
    · exact h.2
    · simp [h.1, ih h.2]

/-- A write at an 8-bit address keeps the canonical form. -/
theorem wf_write {m : Memory} (a v : Byte) (h : m.wf = true) : (m.write a.toNat v).wf = true := by
  simp only [Memory.wf, Bool.and_eq_true] at h ⊢
  exact ⟨risingFrom_write v h.1 (Nat.zero_le _), all_write h.2 (by simpa using a.isLt)⟩

/-- Leaving a register open keeps the canonical form. -/
theorem wf_forget {m : Memory} (a : Nat) (h : m.wf = true) : (m.forget a).wf = true := by
  simp only [Memory.wf, Bool.and_eq_true] at h ⊢
  exact ⟨risingFrom_forget a h.1, all_forget a h.2⟩

theorem lookup_below {lo a : Nat} {m : Memory} (h : m.risingFrom lo = true) (ha : a < lo) : m.lookup a = none := by
  induction m generalizing lo with
  | nil => rfl
  | cons c m ih =>
    obtain ⟨k, w⟩ := c
    simp only [Memory.risingFrom, Bool.and_eq_true, decide_eq_true_eq] at h
    have hk : k ≠ a := by omega
    simp [Memory.lookup, hk, ih h.2 (by omega)]

theorem lookup_forget_same {m : Memory} (a : Nat) {lo : Nat} (h : m.risingFrom lo = true) :
    (m.forget a).lookup a = none := by
  induction m generalizing lo with
  | nil => rfl
  | cons c m ih =>
    obtain ⟨k, w⟩ := c
    simp only [Memory.risingFrom, Bool.and_eq_true, decide_eq_true_eq] at h
    simp only [Memory.forget]
    split
    · exact lookup_below h.2 (by omega)
    · rename_i hk
      simp [Memory.lookup, hk, ih h.2]

theorem lookup_forget_other (m : Memory) (a b : Nat) (h : b ≠ a) : (m.forget a).lookup b = m.lookup b := by
  induction m with
  | nil => rfl
  | cons c m ih =>
    obtain ⟨k, w⟩ := c
    simp only [Memory.forget]
    split
    · rename_i hk
      subst hk
      simp [Memory.lookup, h.symm]
    · simp [Memory.lookup, ih]

/-- The sensor's acts keep the canonical form. -/
theorem sensorActs_wf {s : State} (a : Byte) (v : Option Byte) (h : s.sensor.wf = true) :
    (sensorActs a v s).sensor.wf = true := by
  cases v with
  | none => exact wf_forget _ h
  | some b => exact wf_write _ _ h

/-- The memory of the reset state is in canonical form. -/
theorem reset_sensor_wf : State.reset.sensor.wf = true := rfl

/-- A listed register answers with its content. -/
theorem drawByte_listed {m : Memory} {a : Nat} {v : Byte} (d : Nat) (h : m.lookup a = some v) : drawByte m d a = v := by
  simp [drawByte, h]

/-- A register that is not listed answers with the free value of the draw. -/
theorem drawByte_open {m : Memory} {a : Nat} (d : Nat) (h : m.lookup a = none) :
    drawByte m d a = Config.sensorDraw d := by
  simp [drawByte, h]

theorem drawBytes_length (m : Memory) (d a n : Nat) : (drawBytes m d a n).length = n := by
  induction n generalizing d a with
  | zero => rfl
  | succ n ih => simp [drawBytes, ih]

end Sys2Proof.Machine
end

