-- ==== Sys2Proof/Laws/State.lean ====
section
/-! SUPPORT. One lemma per field per named update of the state, so that no later proof unfolds a record update.

The proofs read `(rfl)`, not `rfl`: so written, simp rewrites with the lemmas and the kernel follows step by step. With
a bare `rfl` the kernel compares the whole states itself, evaluates the words that CMPH and CMPP store, and ends in a
'deep recursion'. A frame proof should use these lemmas and not `rfl` on a state that holds a stage's result. -/

namespace Sys2Proof.Machine

@[simp] theorem goPhase_calT (c : PhaseCode) (s : State) : (goPhase c s).calT = s.calT := (rfl)
@[simp] theorem goPhase_calP (c : PhaseCode) (s : State) : (goPhase c s).calP = s.calP := (rfl)
@[simp] theorem goPhase_calH (c : PhaseCode) (s : State) : (goPhase c s).calH = s.calH := (rfl)
@[simp] theorem goPhase_rb (c : PhaseCode) (s : State) : (goPhase c s).rb = s.rb := (rfl)
@[simp] theorem goPhase_adcP (c : PhaseCode) (s : State) : (goPhase c s).adcP = s.adcP := (rfl)
@[simp] theorem goPhase_adcT (c : PhaseCode) (s : State) : (goPhase c s).adcT = s.adcT := (rfl)
@[simp] theorem goPhase_adcH (c : PhaseCode) (s : State) : (goPhase c s).adcH = s.adcH := (rfl)
@[simp] theorem goPhase_tfine (c : PhaseCode) (s : State) : (goPhase c s).tfine = s.tfine := (rfl)
@[simp] theorem goPhase_tfv (c : PhaseCode) (s : State) : (goPhase c s).tfv = s.tfv := (rfl)
@[simp] theorem goPhase_tOut (c : PhaseCode) (s : State) : (goPhase c s).tOut = s.tOut := (rfl)
@[simp] theorem goPhase_hOut (c : PhaseCode) (s : State) : (goPhase c s).hOut = s.hOut := (rfl)
@[simp] theorem goPhase_pOut (c : PhaseCode) (s : State) : (goPhase c s).pOut = s.pOut := (rfl)
@[simp] theorem goPhase_phase (c : PhaseCode) (s : State) : (goPhase c s).phase = c := (rfl)
@[simp] theorem goPhase_lc (c : PhaseCode) (s : State) : (goPhase c s).lc = s.lc := (rfl)
@[simp] theorem goPhase_busy (c : PhaseCode) (s : State) : (goPhase c s).busy = s.busy := (rfl)
@[simp] theorem goPhase_rvalid (c : PhaseCode) (s : State) : (goPhase c s).rvalid = s.rvalid := (rfl)
@[simp] theorem goPhase_err (c : PhaseCode) (s : State) : (goPhase c s).err = s.err := (rfl)
@[simp] theorem goPhase_esticky (c : PhaseCode) (s : State) : (goPhase c s).esticky = s.esticky := (rfl)
@[simp] theorem goPhase_params (c : PhaseCode) (s : State) : (goPhase c s).params = s.params := (rfl)
@[simp] theorem goPhase_sensor (c : PhaseCode) (s : State) : (goPhase c s).sensor = s.sensor := (rfl)
@[simp] theorem goPhase_transport (c : PhaseCode) (s : State) : (goPhase c s).transport = s.transport := (rfl)
@[simp] theorem goPhase_script (c : PhaseCode) (s : State) : (goPhase c s).script = s.script := (rfl)
@[simp] theorem goPhase_draws (c : PhaseCode) (s : State) : (goPhase c s).draws = s.draws := (rfl)
@[simp] theorem goPhase_history (c : PhaseCode) (s : State) : (goPhase c s).history = s.history := (rfl)
@[simp] theorem goPhase_hostSeen (c : PhaseCode) (s : State) : (goPhase c s).hostSeen = s.hostSeen := (rfl)

@[simp] theorem raise_calT (e : CmdError) (s : State) : (raise e s).calT = s.calT := (rfl)
@[simp] theorem raise_calP (e : CmdError) (s : State) : (raise e s).calP = s.calP := (rfl)
@[simp] theorem raise_calH (e : CmdError) (s : State) : (raise e s).calH = s.calH := (rfl)
@[simp] theorem raise_rb (e : CmdError) (s : State) : (raise e s).rb = s.rb := (rfl)
@[simp] theorem raise_adcP (e : CmdError) (s : State) : (raise e s).adcP = s.adcP := (rfl)
@[simp] theorem raise_adcT (e : CmdError) (s : State) : (raise e s).adcT = s.adcT := (rfl)
@[simp] theorem raise_adcH (e : CmdError) (s : State) : (raise e s).adcH = s.adcH := (rfl)
@[simp] theorem raise_tfine (e : CmdError) (s : State) : (raise e s).tfine = s.tfine := (rfl)
@[simp] theorem raise_tfv (e : CmdError) (s : State) : (raise e s).tfv = false := (rfl)
@[simp] theorem raise_tOut (e : CmdError) (s : State) : (raise e s).tOut = s.tOut := (rfl)
@[simp] theorem raise_hOut (e : CmdError) (s : State) : (raise e s).hOut = s.hOut := (rfl)
@[simp] theorem raise_pOut (e : CmdError) (s : State) : (raise e s).pOut = s.pOut := (rfl)
@[simp] theorem raise_phase (e : CmdError) (s : State) : (raise e s).phase = 0x00#6 := (rfl)
@[simp] theorem raise_lc (e : CmdError) (s : State) : (raise e s).lc = s.lc := (rfl)
@[simp] theorem raise_busy (e : CmdError) (s : State) : (raise e s).busy = false := (rfl)
@[simp] theorem raise_rvalid (e : CmdError) (s : State) : (raise e s).rvalid = s.rvalid := (rfl)
@[simp] theorem raise_err (e : CmdError) (s : State) : (raise e s).err = errorCode e := (rfl)
@[simp] theorem raise_esticky (e : CmdError) (s : State) : (raise e s).esticky = true := (rfl)
@[simp] theorem raise_params (e : CmdError) (s : State) : (raise e s).params = s.params := (rfl)
@[simp] theorem raise_sensor (e : CmdError) (s : State) : (raise e s).sensor = s.sensor := (rfl)
@[simp] theorem raise_transport (e : CmdError) (s : State) : (raise e s).transport = s.transport := (rfl)
@[simp] theorem raise_script (e : CmdError) (s : State) : (raise e s).script = s.script := (rfl)
@[simp] theorem raise_draws (e : CmdError) (s : State) : (raise e s).draws = s.draws := (rfl)
@[simp] theorem raise_history (e : CmdError) (s : State) : (raise e s).history = s.history := (rfl)
@[simp] theorem raise_hostSeen (e : CmdError) (s : State) : (raise e s).hostSeen = s.hostSeen := (rfl)

@[simp] theorem endCommand_calT (s : State) : (endCommand s).calT = s.calT := (rfl)
@[simp] theorem endCommand_calP (s : State) : (endCommand s).calP = s.calP := (rfl)
@[simp] theorem endCommand_calH (s : State) : (endCommand s).calH = s.calH := (rfl)
@[simp] theorem endCommand_rb (s : State) : (endCommand s).rb = s.rb := (rfl)
@[simp] theorem endCommand_adcP (s : State) : (endCommand s).adcP = s.adcP := (rfl)
@[simp] theorem endCommand_adcT (s : State) : (endCommand s).adcT = s.adcT := (rfl)
@[simp] theorem endCommand_adcH (s : State) : (endCommand s).adcH = s.adcH := (rfl)
@[simp] theorem endCommand_tfine (s : State) : (endCommand s).tfine = s.tfine := (rfl)
@[simp] theorem endCommand_tfv (s : State) : (endCommand s).tfv = s.tfv := (rfl)
@[simp] theorem endCommand_tOut (s : State) : (endCommand s).tOut = s.tOut := (rfl)
@[simp] theorem endCommand_hOut (s : State) : (endCommand s).hOut = s.hOut := (rfl)
@[simp] theorem endCommand_pOut (s : State) : (endCommand s).pOut = s.pOut := (rfl)
@[simp] theorem endCommand_phase (s : State) : (endCommand s).phase = 0x00#6 := (rfl)
@[simp] theorem endCommand_lc (s : State) : (endCommand s).lc = s.lc := (rfl)
@[simp] theorem endCommand_busy (s : State) : (endCommand s).busy = false := (rfl)
@[simp] theorem endCommand_rvalid (s : State) : (endCommand s).rvalid = s.rvalid := (rfl)
@[simp] theorem endCommand_err (s : State) : (endCommand s).err = 0#2 := (rfl)
@[simp] theorem endCommand_esticky (s : State) : (endCommand s).esticky = s.esticky := (rfl)
@[simp] theorem endCommand_params (s : State) : (endCommand s).params = s.params := (rfl)
@[simp] theorem endCommand_sensor (s : State) : (endCommand s).sensor = s.sensor := (rfl)
@[simp] theorem endCommand_transport (s : State) : (endCommand s).transport = s.transport := (rfl)
@[simp] theorem endCommand_script (s : State) : (endCommand s).script = s.script := (rfl)
@[simp] theorem endCommand_draws (s : State) : (endCommand s).draws = s.draws := (rfl)
@[simp] theorem endCommand_history (s : State) : (endCommand s).history = s.history := (rfl)
@[simp] theorem endCommand_hostSeen (s : State) : (endCommand s).hostSeen = s.hostSeen := (rfl)

@[simp] theorem transacted_calT (x : Transaction) (s : State) : (transacted x s).calT = s.calT := (rfl)
@[simp] theorem transacted_calP (x : Transaction) (s : State) : (transacted x s).calP = s.calP := (rfl)
@[simp] theorem transacted_calH (x : Transaction) (s : State) : (transacted x s).calH = s.calH := (rfl)
@[simp] theorem transacted_rb (x : Transaction) (s : State) : (transacted x s).rb = s.rb := (rfl)
@[simp] theorem transacted_adcP (x : Transaction) (s : State) : (transacted x s).adcP = s.adcP := (rfl)
@[simp] theorem transacted_adcT (x : Transaction) (s : State) : (transacted x s).adcT = s.adcT := (rfl)
@[simp] theorem transacted_adcH (x : Transaction) (s : State) : (transacted x s).adcH = s.adcH := (rfl)
@[simp] theorem transacted_tfine (x : Transaction) (s : State) : (transacted x s).tfine = s.tfine := (rfl)
@[simp] theorem transacted_tfv (x : Transaction) (s : State) : (transacted x s).tfv = s.tfv := (rfl)
@[simp] theorem transacted_tOut (x : Transaction) (s : State) : (transacted x s).tOut = s.tOut := (rfl)
@[simp] theorem transacted_hOut (x : Transaction) (s : State) : (transacted x s).hOut = s.hOut := (rfl)
@[simp] theorem transacted_pOut (x : Transaction) (s : State) : (transacted x s).pOut = s.pOut := (rfl)
@[simp] theorem transacted_phase (x : Transaction) (s : State) : (transacted x s).phase = s.phase := (rfl)
@[simp] theorem transacted_lc (x : Transaction) (s : State) : (transacted x s).lc = s.lc := (rfl)
@[simp] theorem transacted_busy (x : Transaction) (s : State) : (transacted x s).busy = s.busy := (rfl)
@[simp] theorem transacted_rvalid (x : Transaction) (s : State) : (transacted x s).rvalid = s.rvalid := (rfl)
@[simp] theorem transacted_err (x : Transaction) (s : State) : (transacted x s).err = s.err := (rfl)
@[simp] theorem transacted_esticky (x : Transaction) (s : State) : (transacted x s).esticky = s.esticky := (rfl)
@[simp] theorem transacted_params (x : Transaction) (s : State) : (transacted x s).params = s.params := (rfl)
@[simp] theorem transacted_sensor (x : Transaction) (s : State) : (transacted x s).sensor = s.sensor := (rfl)
@[simp] theorem transacted_transport (x : Transaction) (s : State) : (transacted x s).transport = s.transport.tail := (rfl)
@[simp] theorem transacted_script (x : Transaction) (s : State) : (transacted x s).script = s.script := (rfl)
@[simp] theorem transacted_draws (x : Transaction) (s : State) : (transacted x s).draws = s.draws := (rfl)
@[simp] theorem transacted_history (x : Transaction) (s : State) : (transacted x s).history = x :: s.history := (rfl)
@[simp] theorem transacted_hostSeen (x : Transaction) (s : State) : (transacted x s).hostSeen = s.hostSeen := (rfl)

@[simp] theorem readOk_calT (a : Byte) (n : Nat) (s : State) : (readOk a n s).calT = s.calT := (rfl)
@[simp] theorem readOk_calP (a : Byte) (n : Nat) (s : State) : (readOk a n s).calP = s.calP := (rfl)
@[simp] theorem readOk_calH (a : Byte) (n : Nat) (s : State) : (readOk a n s).calH = s.calH := (rfl)
@[simp] theorem readOk_rb (a : Byte) (n : Nat) (s : State) : (readOk a n s).rb = s.rb := (rfl)
@[simp] theorem readOk_adcP (a : Byte) (n : Nat) (s : State) : (readOk a n s).adcP = s.adcP := (rfl)
@[simp] theorem readOk_adcT (a : Byte) (n : Nat) (s : State) : (readOk a n s).adcT = s.adcT := (rfl)
@[simp] theorem readOk_adcH (a : Byte) (n : Nat) (s : State) : (readOk a n s).adcH = s.adcH := (rfl)
@[simp] theorem readOk_tfine (a : Byte) (n : Nat) (s : State) : (readOk a n s).tfine = s.tfine := (rfl)
@[simp] theorem readOk_tfv (a : Byte) (n : Nat) (s : State) : (readOk a n s).tfv = s.tfv := (rfl)
@[simp] theorem readOk_tOut (a : Byte) (n : Nat) (s : State) : (readOk a n s).tOut = s.tOut := (rfl)
@[simp] theorem readOk_hOut (a : Byte) (n : Nat) (s : State) : (readOk a n s).hOut = s.hOut := (rfl)
@[simp] theorem readOk_pOut (a : Byte) (n : Nat) (s : State) : (readOk a n s).pOut = s.pOut := (rfl)
@[simp] theorem readOk_phase (a : Byte) (n : Nat) (s : State) : (readOk a n s).phase = s.phase := (rfl)
@[simp] theorem readOk_lc (a : Byte) (n : Nat) (s : State) : (readOk a n s).lc = s.lc := (rfl)
@[simp] theorem readOk_busy (a : Byte) (n : Nat) (s : State) : (readOk a n s).busy = s.busy := (rfl)
@[simp] theorem readOk_rvalid (a : Byte) (n : Nat) (s : State) : (readOk a n s).rvalid = s.rvalid := (rfl)
@[simp] theorem readOk_err (a : Byte) (n : Nat) (s : State) : (readOk a n s).err = s.err := (rfl)
@[simp] theorem readOk_esticky (a : Byte) (n : Nat) (s : State) : (readOk a n s).esticky = s.esticky := (rfl)
@[simp] theorem readOk_params (a : Byte) (n : Nat) (s : State) : (readOk a n s).params = s.params := (rfl)
@[simp] theorem readOk_sensor (a : Byte) (n : Nat) (s : State) : (readOk a n s).sensor = s.sensor := (rfl)
@[simp] theorem readOk_transport (a : Byte) (n : Nat) (s : State) : (readOk a n s).transport = s.transport.tail := (rfl)
@[simp] theorem readOk_script (a : Byte) (n : Nat) (s : State) : (readOk a n s).script = s.script := (rfl)
@[simp] theorem readOk_draws (a : Byte) (n : Nat) (s : State) : (readOk a n s).draws = s.draws + n := (rfl)
@[simp] theorem readOk_history (a : Byte) (n : Nat) (s : State) : (readOk a n s).history = .read Config.devAddr a n (some (drawBytes s.sensor s.draws a.toNat n)) :: s.history := (rfl)
@[simp] theorem readOk_hostSeen (a : Byte) (n : Nat) (s : State) : (readOk a n s).hostSeen = s.hostSeen := (rfl)

@[simp] theorem writeOk_calT (a v : Byte) (s : State) : (writeOk a v s).calT = s.calT := (rfl)
@[simp] theorem writeOk_calP (a v : Byte) (s : State) : (writeOk a v s).calP = s.calP := (rfl)
@[simp] theorem writeOk_calH (a v : Byte) (s : State) : (writeOk a v s).calH = s.calH := (rfl)
@[simp] theorem writeOk_rb (a v : Byte) (s : State) : (writeOk a v s).rb = s.rb := (rfl)
@[simp] theorem writeOk_adcP (a v : Byte) (s : State) : (writeOk a v s).adcP = s.adcP := (rfl)
@[simp] theorem writeOk_adcT (a v : Byte) (s : State) : (writeOk a v s).adcT = s.adcT := (rfl)
@[simp] theorem writeOk_adcH (a v : Byte) (s : State) : (writeOk a v s).adcH = s.adcH := (rfl)
@[simp] theorem writeOk_tfine (a v : Byte) (s : State) : (writeOk a v s).tfine = s.tfine := (rfl)
@[simp] theorem writeOk_tfv (a v : Byte) (s : State) : (writeOk a v s).tfv = s.tfv := (rfl)
@[simp] theorem writeOk_tOut (a v : Byte) (s : State) : (writeOk a v s).tOut = s.tOut := (rfl)
@[simp] theorem writeOk_hOut (a v : Byte) (s : State) : (writeOk a v s).hOut = s.hOut := (rfl)
@[simp] theorem writeOk_pOut (a v : Byte) (s : State) : (writeOk a v s).pOut = s.pOut := (rfl)
@[simp] theorem writeOk_phase (a v : Byte) (s : State) : (writeOk a v s).phase = s.phase := (rfl)
@[simp] theorem writeOk_lc (a v : Byte) (s : State) : (writeOk a v s).lc = s.lc := (rfl)
@[simp] theorem writeOk_busy (a v : Byte) (s : State) : (writeOk a v s).busy = s.busy := (rfl)
@[simp] theorem writeOk_rvalid (a v : Byte) (s : State) : (writeOk a v s).rvalid = s.rvalid := (rfl)
@[simp] theorem writeOk_err (a v : Byte) (s : State) : (writeOk a v s).err = s.err := (rfl)
@[simp] theorem writeOk_esticky (a v : Byte) (s : State) : (writeOk a v s).esticky = s.esticky := (rfl)
@[simp] theorem writeOk_params (a v : Byte) (s : State) : (writeOk a v s).params = s.params := (rfl)
@[simp] theorem writeOk_sensor (a v : Byte) (s : State) : (writeOk a v s).sensor = s.sensor.write a.toNat v := (rfl)
@[simp] theorem writeOk_transport (a v : Byte) (s : State) : (writeOk a v s).transport = s.transport.tail := (rfl)
@[simp] theorem writeOk_script (a v : Byte) (s : State) : (writeOk a v s).script = s.script := (rfl)
@[simp] theorem writeOk_draws (a v : Byte) (s : State) : (writeOk a v s).draws = s.draws := (rfl)
@[simp] theorem writeOk_history (a v : Byte) (s : State) : (writeOk a v s).history = .write Config.devAddr a v true :: s.history := (rfl)
@[simp] theorem writeOk_hostSeen (a v : Byte) (s : State) : (writeOk a v s).hostSeen = s.hostSeen := (rfl)

@[simp] theorem chargeTfine_calT (s : State) : (chargeTfine s).calT = s.calT := (rfl)
@[simp] theorem chargeTfine_calP (s : State) : (chargeTfine s).calP = s.calP := (rfl)
@[simp] theorem chargeTfine_calH (s : State) : (chargeTfine s).calH = s.calH := (rfl)
@[simp] theorem chargeTfine_rb (s : State) : (chargeTfine s).rb = s.rb := (rfl)
@[simp] theorem chargeTfine_adcP (s : State) : (chargeTfine s).adcP = s.adcP := (rfl)
@[simp] theorem chargeTfine_adcT (s : State) : (chargeTfine s).adcT = s.adcT := (rfl)
@[simp] theorem chargeTfine_adcH (s : State) : (chargeTfine s).adcH = s.adcH := (rfl)
@[simp] theorem chargeTfine_tfine (s : State) : (chargeTfine s).tfine = s.tfine := (rfl)
@[simp] theorem chargeTfine_tfv (s : State) : (chargeTfine s).tfv = s.tfv := (rfl)
@[simp] theorem chargeTfine_tOut (s : State) : (chargeTfine s).tOut = s.tOut := (rfl)
@[simp] theorem chargeTfine_hOut (s : State) : (chargeTfine s).hOut = s.hOut := (rfl)
@[simp] theorem chargeTfine_pOut (s : State) : (chargeTfine s).pOut = s.pOut := (rfl)
@[simp] theorem chargeTfine_phase (s : State) : (chargeTfine s).phase = s.phase := (rfl)
@[simp] theorem chargeTfine_lc (s : State) : (chargeTfine s).lc = s.lc := (rfl)
@[simp] theorem chargeTfine_busy (s : State) : (chargeTfine s).busy = s.busy := (rfl)
@[simp] theorem chargeTfine_rvalid (s : State) : (chargeTfine s).rvalid = s.rvalid := (rfl)
@[simp] theorem chargeTfine_err (s : State) : (chargeTfine s).err = s.err := (rfl)
@[simp] theorem chargeTfine_esticky (s : State) : (chargeTfine s).esticky = s.esticky := (rfl)
@[simp] theorem chargeTfine_params (s : State) : (chargeTfine s).params = s.params := (rfl)
@[simp] theorem chargeTfine_sensor (s : State) : (chargeTfine s).sensor = s.sensor := (rfl)
@[simp] theorem chargeTfine_transport (s : State) : (chargeTfine s).transport = s.transport := (rfl)
@[simp] theorem chargeTfine_script (s : State) : (chargeTfine s).script = s.script := (rfl)
@[simp] theorem chargeTfine_draws (s : State) : (chargeTfine s).draws = if s.tfv then s.draws else s.draws + 1 := (rfl)
@[simp] theorem chargeTfine_history (s : State) : (chargeTfine s).history = s.history := (rfl)
@[simp] theorem chargeTfine_hostSeen (s : State) : (chargeTfine s).hostSeen = s.hostSeen := (rfl)

@[simp] theorem dropEvent_calT (s : State) : (dropEvent s).calT = s.calT := (rfl)
@[simp] theorem dropEvent_calP (s : State) : (dropEvent s).calP = s.calP := (rfl)
@[simp] theorem dropEvent_calH (s : State) : (dropEvent s).calH = s.calH := (rfl)
@[simp] theorem dropEvent_rb (s : State) : (dropEvent s).rb = s.rb := (rfl)
@[simp] theorem dropEvent_adcP (s : State) : (dropEvent s).adcP = s.adcP := (rfl)
@[simp] theorem dropEvent_adcT (s : State) : (dropEvent s).adcT = s.adcT := (rfl)
@[simp] theorem dropEvent_adcH (s : State) : (dropEvent s).adcH = s.adcH := (rfl)
@[simp] theorem dropEvent_tfine (s : State) : (dropEvent s).tfine = s.tfine := (rfl)
@[simp] theorem dropEvent_tfv (s : State) : (dropEvent s).tfv = s.tfv := (rfl)
@[simp] theorem dropEvent_tOut (s : State) : (dropEvent s).tOut = s.tOut := (rfl)
@[simp] theorem dropEvent_hOut (s : State) : (dropEvent s).hOut = s.hOut := (rfl)
@[simp] theorem dropEvent_pOut (s : State) : (dropEvent s).pOut = s.pOut := (rfl)
@[simp] theorem dropEvent_phase (s : State) : (dropEvent s).phase = s.phase := (rfl)
@[simp] theorem dropEvent_lc (s : State) : (dropEvent s).lc = s.lc := (rfl)
@[simp] theorem dropEvent_busy (s : State) : (dropEvent s).busy = s.busy := (rfl)
@[simp] theorem dropEvent_rvalid (s : State) : (dropEvent s).rvalid = s.rvalid := (rfl)
@[simp] theorem dropEvent_err (s : State) : (dropEvent s).err = s.err := (rfl)
@[simp] theorem dropEvent_esticky (s : State) : (dropEvent s).esticky = s.esticky := (rfl)
@[simp] theorem dropEvent_params (s : State) : (dropEvent s).params = s.params := (rfl)
@[simp] theorem dropEvent_sensor (s : State) : (dropEvent s).sensor = s.sensor := (rfl)
@[simp] theorem dropEvent_transport (s : State) : (dropEvent s).transport = s.transport := (rfl)
@[simp] theorem dropEvent_script (s : State) : (dropEvent s).script = s.script.tail := (rfl)
@[simp] theorem dropEvent_draws (s : State) : (dropEvent s).draws = s.draws := (rfl)
@[simp] theorem dropEvent_history (s : State) : (dropEvent s).history = s.history := (rfl)
@[simp] theorem dropEvent_hostSeen (s : State) : (dropEvent s).hostSeen = s.hostSeen := (rfl)

@[simp] theorem hostReadsStatus_calT (s : State) : (hostReadsStatus s).calT = s.calT := (rfl)
@[simp] theorem hostReadsStatus_calP (s : State) : (hostReadsStatus s).calP = s.calP := (rfl)
@[simp] theorem hostReadsStatus_calH (s : State) : (hostReadsStatus s).calH = s.calH := (rfl)
@[simp] theorem hostReadsStatus_rb (s : State) : (hostReadsStatus s).rb = s.rb := (rfl)
@[simp] theorem hostReadsStatus_adcP (s : State) : (hostReadsStatus s).adcP = s.adcP := (rfl)
@[simp] theorem hostReadsStatus_adcT (s : State) : (hostReadsStatus s).adcT = s.adcT := (rfl)
@[simp] theorem hostReadsStatus_adcH (s : State) : (hostReadsStatus s).adcH = s.adcH := (rfl)
@[simp] theorem hostReadsStatus_tfine (s : State) : (hostReadsStatus s).tfine = s.tfine := (rfl)
@[simp] theorem hostReadsStatus_tfv (s : State) : (hostReadsStatus s).tfv = s.tfv := (rfl)
@[simp] theorem hostReadsStatus_tOut (s : State) : (hostReadsStatus s).tOut = s.tOut := (rfl)
@[simp] theorem hostReadsStatus_hOut (s : State) : (hostReadsStatus s).hOut = s.hOut := (rfl)
@[simp] theorem hostReadsStatus_pOut (s : State) : (hostReadsStatus s).pOut = s.pOut := (rfl)
@[simp] theorem hostReadsStatus_phase (s : State) : (hostReadsStatus s).phase = s.phase := (rfl)
@[simp] theorem hostReadsStatus_lc (s : State) : (hostReadsStatus s).lc = s.lc := (rfl)
@[simp] theorem hostReadsStatus_busy (s : State) : (hostReadsStatus s).busy = s.busy := (rfl)
@[simp] theorem hostReadsStatus_rvalid (s : State) : (hostReadsStatus s).rvalid = s.rvalid := (rfl)
@[simp] theorem hostReadsStatus_err (s : State) : (hostReadsStatus s).err = s.err := (rfl)
@[simp] theorem hostReadsStatus_esticky (s : State) : (hostReadsStatus s).esticky = s.esticky := (rfl)
@[simp] theorem hostReadsStatus_params (s : State) : (hostReadsStatus s).params = s.params := (rfl)
@[simp] theorem hostReadsStatus_sensor (s : State) : (hostReadsStatus s).sensor = s.sensor := (rfl)
@[simp] theorem hostReadsStatus_transport (s : State) : (hostReadsStatus s).transport = s.transport := (rfl)
@[simp] theorem hostReadsStatus_script (s : State) : (hostReadsStatus s).script = s.script := (rfl)
@[simp] theorem hostReadsStatus_draws (s : State) : (hostReadsStatus s).draws = s.draws := (rfl)
@[simp] theorem hostReadsStatus_history (s : State) : (hostReadsStatus s).history = s.history := (rfl)
@[simp] theorem hostReadsStatus_hostSeen (s : State) : (hostReadsStatus s).hostSeen = .status (statusView s) :: s.hostSeen := (rfl)

@[simp] theorem hostReadsResult_calT (r : ResultReg) (s : State) : (hostReadsResult r s).calT = s.calT := (rfl)
@[simp] theorem hostReadsResult_calP (r : ResultReg) (s : State) : (hostReadsResult r s).calP = s.calP := (rfl)
@[simp] theorem hostReadsResult_calH (r : ResultReg) (s : State) : (hostReadsResult r s).calH = s.calH := (rfl)
@[simp] theorem hostReadsResult_rb (r : ResultReg) (s : State) : (hostReadsResult r s).rb = s.rb := (rfl)
@[simp] theorem hostReadsResult_adcP (r : ResultReg) (s : State) : (hostReadsResult r s).adcP = s.adcP := (rfl)
@[simp] theorem hostReadsResult_adcT (r : ResultReg) (s : State) : (hostReadsResult r s).adcT = s.adcT := (rfl)
@[simp] theorem hostReadsResult_adcH (r : ResultReg) (s : State) : (hostReadsResult r s).adcH = s.adcH := (rfl)
@[simp] theorem hostReadsResult_tfine (r : ResultReg) (s : State) : (hostReadsResult r s).tfine = s.tfine := (rfl)
@[simp] theorem hostReadsResult_tfv (r : ResultReg) (s : State) : (hostReadsResult r s).tfv = s.tfv := (rfl)
@[simp] theorem hostReadsResult_tOut (r : ResultReg) (s : State) : (hostReadsResult r s).tOut = s.tOut := (rfl)
@[simp] theorem hostReadsResult_hOut (r : ResultReg) (s : State) : (hostReadsResult r s).hOut = s.hOut := (rfl)
@[simp] theorem hostReadsResult_pOut (r : ResultReg) (s : State) : (hostReadsResult r s).pOut = s.pOut := (rfl)
@[simp] theorem hostReadsResult_phase (r : ResultReg) (s : State) : (hostReadsResult r s).phase = s.phase := (rfl)
@[simp] theorem hostReadsResult_lc (r : ResultReg) (s : State) : (hostReadsResult r s).lc = s.lc := (rfl)
@[simp] theorem hostReadsResult_busy (r : ResultReg) (s : State) : (hostReadsResult r s).busy = s.busy := (rfl)
@[simp] theorem hostReadsResult_rvalid (r : ResultReg) (s : State) : (hostReadsResult r s).rvalid = s.rvalid := (rfl)
@[simp] theorem hostReadsResult_err (r : ResultReg) (s : State) : (hostReadsResult r s).err = s.err := (rfl)
@[simp] theorem hostReadsResult_esticky (r : ResultReg) (s : State) : (hostReadsResult r s).esticky = s.esticky := (rfl)
@[simp] theorem hostReadsResult_params (r : ResultReg) (s : State) : (hostReadsResult r s).params = s.params := (rfl)
@[simp] theorem hostReadsResult_sensor (r : ResultReg) (s : State) : (hostReadsResult r s).sensor = s.sensor := (rfl)
@[simp] theorem hostReadsResult_transport (r : ResultReg) (s : State) : (hostReadsResult r s).transport = s.transport := (rfl)
@[simp] theorem hostReadsResult_script (r : ResultReg) (s : State) : (hostReadsResult r s).script = s.script := (rfl)
@[simp] theorem hostReadsResult_draws (r : ResultReg) (s : State) : (hostReadsResult r s).draws = s.draws := (rfl)
@[simp] theorem hostReadsResult_history (r : ResultReg) (s : State) : (hostReadsResult r s).history = s.history := (rfl)
@[simp] theorem hostReadsResult_hostSeen (r : ResultReg) (s : State) : (hostReadsResult r s).hostSeen = .result r (readResult s r) :: s.hostSeen := (rfl)

@[simp] theorem transportWillFail_calT (k : Nat) (s : State) : (transportWillFail k s).calT = s.calT := (rfl)
@[simp] theorem transportWillFail_calP (k : Nat) (s : State) : (transportWillFail k s).calP = s.calP := (rfl)
@[simp] theorem transportWillFail_calH (k : Nat) (s : State) : (transportWillFail k s).calH = s.calH := (rfl)
@[simp] theorem transportWillFail_rb (k : Nat) (s : State) : (transportWillFail k s).rb = s.rb := (rfl)
@[simp] theorem transportWillFail_adcP (k : Nat) (s : State) : (transportWillFail k s).adcP = s.adcP := (rfl)
@[simp] theorem transportWillFail_adcT (k : Nat) (s : State) : (transportWillFail k s).adcT = s.adcT := (rfl)
@[simp] theorem transportWillFail_adcH (k : Nat) (s : State) : (transportWillFail k s).adcH = s.adcH := (rfl)
@[simp] theorem transportWillFail_tfine (k : Nat) (s : State) : (transportWillFail k s).tfine = s.tfine := (rfl)
@[simp] theorem transportWillFail_tfv (k : Nat) (s : State) : (transportWillFail k s).tfv = s.tfv := (rfl)
@[simp] theorem transportWillFail_tOut (k : Nat) (s : State) : (transportWillFail k s).tOut = s.tOut := (rfl)
@[simp] theorem transportWillFail_hOut (k : Nat) (s : State) : (transportWillFail k s).hOut = s.hOut := (rfl)
@[simp] theorem transportWillFail_pOut (k : Nat) (s : State) : (transportWillFail k s).pOut = s.pOut := (rfl)
@[simp] theorem transportWillFail_phase (k : Nat) (s : State) : (transportWillFail k s).phase = s.phase := (rfl)
@[simp] theorem transportWillFail_lc (k : Nat) (s : State) : (transportWillFail k s).lc = s.lc := (rfl)
@[simp] theorem transportWillFail_busy (k : Nat) (s : State) : (transportWillFail k s).busy = s.busy := (rfl)
@[simp] theorem transportWillFail_rvalid (k : Nat) (s : State) : (transportWillFail k s).rvalid = s.rvalid := (rfl)
@[simp] theorem transportWillFail_err (k : Nat) (s : State) : (transportWillFail k s).err = s.err := (rfl)
@[simp] theorem transportWillFail_esticky (k : Nat) (s : State) : (transportWillFail k s).esticky = s.esticky := (rfl)
@[simp] theorem transportWillFail_params (k : Nat) (s : State) : (transportWillFail k s).params = s.params := (rfl)
@[simp] theorem transportWillFail_sensor (k : Nat) (s : State) : (transportWillFail k s).sensor = s.sensor := (rfl)
@[simp] theorem transportWillFail_transport (k : Nat) (s : State) : (transportWillFail k s).transport = failNth k s.transport := (rfl)
@[simp] theorem transportWillFail_script (k : Nat) (s : State) : (transportWillFail k s).script = s.script := (rfl)
@[simp] theorem transportWillFail_draws (k : Nat) (s : State) : (transportWillFail k s).draws = s.draws := (rfl)
@[simp] theorem transportWillFail_history (k : Nat) (s : State) : (transportWillFail k s).history = s.history := (rfl)
@[simp] theorem transportWillFail_hostSeen (k : Nat) (s : State) : (transportWillFail k s).hostSeen = s.hostSeen := (rfl)

@[simp] theorem assertReset_tfv (s : State) : (assertReset s).tfv = false := (rfl)
@[simp] theorem assertReset_phase (s : State) : (assertReset s).phase = 0x00#6 := (rfl)
@[simp] theorem assertReset_lc (s : State) : (assertReset s).lc = .uninit := (rfl)
@[simp] theorem assertReset_busy (s : State) : (assertReset s).busy = false := (rfl)
@[simp] theorem assertReset_rvalid (s : State) : (assertReset s).rvalid = false := (rfl)
@[simp] theorem assertReset_err (s : State) : (assertReset s).err = 0#2 := (rfl)
@[simp] theorem assertReset_esticky (s : State) : (assertReset s).esticky = false := (rfl)
@[simp] theorem assertReset_params (s : State) : (assertReset s).params = s.params := (rfl)
@[simp] theorem assertReset_sensor (s : State) : (assertReset s).sensor = s.sensor := (rfl)
@[simp] theorem assertReset_transport (s : State) : (assertReset s).transport = s.transport := (rfl)
@[simp] theorem assertReset_script (s : State) : (assertReset s).script = s.script := (rfl)
@[simp] theorem assertReset_draws (s : State) : (assertReset s).draws = s.draws + dataRegisters := (rfl)
@[simp] theorem assertReset_history (s : State) : (assertReset s).history = s.history := (rfl)
@[simp] theorem assertReset_hostSeen (s : State) : (assertReset s).hostSeen = s.hostSeen := (rfl)

@[simp] theorem putT1_calT (v : Half) (s : State) : (putT1 v s).calT = { s.calT with t1 := v } := (rfl)
@[simp] theorem putT1_calP (v : Half) (s : State) : (putT1 v s).calP = s.calP := (rfl)
@[simp] theorem putT1_calH (v : Half) (s : State) : (putT1 v s).calH = s.calH := (rfl)
@[simp] theorem putT1_rb (v : Half) (s : State) : (putT1 v s).rb = s.rb := (rfl)
@[simp] theorem putT1_adcP (v : Half) (s : State) : (putT1 v s).adcP = s.adcP := (rfl)
@[simp] theorem putT1_adcT (v : Half) (s : State) : (putT1 v s).adcT = s.adcT := (rfl)
@[simp] theorem putT1_adcH (v : Half) (s : State) : (putT1 v s).adcH = s.adcH := (rfl)
@[simp] theorem putT1_tfine (v : Half) (s : State) : (putT1 v s).tfine = s.tfine := (rfl)
@[simp] theorem putT1_tfv (v : Half) (s : State) : (putT1 v s).tfv = s.tfv := (rfl)
@[simp] theorem putT1_tOut (v : Half) (s : State) : (putT1 v s).tOut = s.tOut := (rfl)
@[simp] theorem putT1_hOut (v : Half) (s : State) : (putT1 v s).hOut = s.hOut := (rfl)
@[simp] theorem putT1_pOut (v : Half) (s : State) : (putT1 v s).pOut = s.pOut := (rfl)
@[simp] theorem putT1_phase (v : Half) (s : State) : (putT1 v s).phase = s.phase := (rfl)
@[simp] theorem putT1_lc (v : Half) (s : State) : (putT1 v s).lc = s.lc := (rfl)
@[simp] theorem putT1_busy (v : Half) (s : State) : (putT1 v s).busy = s.busy := (rfl)
@[simp] theorem putT1_rvalid (v : Half) (s : State) : (putT1 v s).rvalid = s.rvalid := (rfl)
@[simp] theorem putT1_err (v : Half) (s : State) : (putT1 v s).err = s.err := (rfl)
@[simp] theorem putT1_esticky (v : Half) (s : State) : (putT1 v s).esticky = s.esticky := (rfl)
@[simp] theorem putT1_params (v : Half) (s : State) : (putT1 v s).params = s.params := (rfl)
@[simp] theorem putT1_sensor (v : Half) (s : State) : (putT1 v s).sensor = s.sensor := (rfl)
@[simp] theorem putT1_transport (v : Half) (s : State) : (putT1 v s).transport = s.transport := (rfl)
@[simp] theorem putT1_script (v : Half) (s : State) : (putT1 v s).script = s.script := (rfl)
@[simp] theorem putT1_draws (v : Half) (s : State) : (putT1 v s).draws = s.draws := (rfl)
@[simp] theorem putT1_history (v : Half) (s : State) : (putT1 v s).history = s.history := (rfl)
@[simp] theorem putT1_hostSeen (v : Half) (s : State) : (putT1 v s).hostSeen = s.hostSeen := (rfl)

@[simp] theorem putT2_calT (v : Half) (s : State) : (putT2 v s).calT = { s.calT with t2 := v } := (rfl)
@[simp] theorem putT2_calP (v : Half) (s : State) : (putT2 v s).calP = s.calP := (rfl)
@[simp] theorem putT2_calH (v : Half) (s : State) : (putT2 v s).calH = s.calH := (rfl)
@[simp] theorem putT2_rb (v : Half) (s : State) : (putT2 v s).rb = s.rb := (rfl)
@[simp] theorem putT2_adcP (v : Half) (s : State) : (putT2 v s).adcP = s.adcP := (rfl)
@[simp] theorem putT2_adcT (v : Half) (s : State) : (putT2 v s).adcT = s.adcT := (rfl)
@[simp] theorem putT2_adcH (v : Half) (s : State) : (putT2 v s).adcH = s.adcH := (rfl)
@[simp] theorem putT2_tfine (v : Half) (s : State) : (putT2 v s).tfine = s.tfine := (rfl)
@[simp] theorem putT2_tfv (v : Half) (s : State) : (putT2 v s).tfv = s.tfv := (rfl)
@[simp] theorem putT2_tOut (v : Half) (s : State) : (putT2 v s).tOut = s.tOut := (rfl)
@[simp] theorem putT2_hOut (v : Half) (s : State) : (putT2 v s).hOut = s.hOut := (rfl)
@[simp] theorem putT2_pOut (v : Half) (s : State) : (putT2 v s).pOut = s.pOut := (rfl)
@[simp] theorem putT2_phase (v : Half) (s : State) : (putT2 v s).phase = s.phase := (rfl)
@[simp] theorem putT2_lc (v : Half) (s : State) : (putT2 v s).lc = s.lc := (rfl)
@[simp] theorem putT2_busy (v : Half) (s : State) : (putT2 v s).busy = s.busy := (rfl)
@[simp] theorem putT2_rvalid (v : Half) (s : State) : (putT2 v s).rvalid = s.rvalid := (rfl)
@[simp] theorem putT2_err (v : Half) (s : State) : (putT2 v s).err = s.err := (rfl)
@[simp] theorem putT2_esticky (v : Half) (s : State) : (putT2 v s).esticky = s.esticky := (rfl)
@[simp] theorem putT2_params (v : Half) (s : State) : (putT2 v s).params = s.params := (rfl)
@[simp] theorem putT2_sensor (v : Half) (s : State) : (putT2 v s).sensor = s.sensor := (rfl)
@[simp] theorem putT2_transport (v : Half) (s : State) : (putT2 v s).transport = s.transport := (rfl)
@[simp] theorem putT2_script (v : Half) (s : State) : (putT2 v s).script = s.script := (rfl)
@[simp] theorem putT2_draws (v : Half) (s : State) : (putT2 v s).draws = s.draws := (rfl)
@[simp] theorem putT2_history (v : Half) (s : State) : (putT2 v s).history = s.history := (rfl)
@[simp] theorem putT2_hostSeen (v : Half) (s : State) : (putT2 v s).hostSeen = s.hostSeen := (rfl)

@[simp] theorem putT3_calT (v : Half) (s : State) : (putT3 v s).calT = { s.calT with t3 := v } := (rfl)
@[simp] theorem putT3_calP (v : Half) (s : State) : (putT3 v s).calP = s.calP := (rfl)
@[simp] theorem putT3_calH (v : Half) (s : State) : (putT3 v s).calH = s.calH := (rfl)
@[simp] theorem putT3_rb (v : Half) (s : State) : (putT3 v s).rb = s.rb := (rfl)
@[simp] theorem putT3_adcP (v : Half) (s : State) : (putT3 v s).adcP = s.adcP := (rfl)
@[simp] theorem putT3_adcT (v : Half) (s : State) : (putT3 v s).adcT = s.adcT := (rfl)
@[simp] theorem putT3_adcH (v : Half) (s : State) : (putT3 v s).adcH = s.adcH := (rfl)
@[simp] theorem putT3_tfine (v : Half) (s : State) : (putT3 v s).tfine = s.tfine := (rfl)
@[simp] theorem putT3_tfv (v : Half) (s : State) : (putT3 v s).tfv = s.tfv := (rfl)
@[simp] theorem putT3_tOut (v : Half) (s : State) : (putT3 v s).tOut = s.tOut := (rfl)
@[simp] theorem putT3_hOut (v : Half) (s : State) : (putT3 v s).hOut = s.hOut := (rfl)
@[simp] theorem putT3_pOut (v : Half) (s : State) : (putT3 v s).pOut = s.pOut := (rfl)
@[simp] theorem putT3_phase (v : Half) (s : State) : (putT3 v s).phase = s.phase := (rfl)
@[simp] theorem putT3_lc (v : Half) (s : State) : (putT3 v s).lc = s.lc := (rfl)
@[simp] theorem putT3_busy (v : Half) (s : State) : (putT3 v s).busy = s.busy := (rfl)
@[simp] theorem putT3_rvalid (v : Half) (s : State) : (putT3 v s).rvalid = s.rvalid := (rfl)
@[simp] theorem putT3_err (v : Half) (s : State) : (putT3 v s).err = s.err := (rfl)
@[simp] theorem putT3_esticky (v : Half) (s : State) : (putT3 v s).esticky = s.esticky := (rfl)
@[simp] theorem putT3_params (v : Half) (s : State) : (putT3 v s).params = s.params := (rfl)
@[simp] theorem putT3_sensor (v : Half) (s : State) : (putT3 v s).sensor = s.sensor := (rfl)
@[simp] theorem putT3_transport (v : Half) (s : State) : (putT3 v s).transport = s.transport := (rfl)
@[simp] theorem putT3_script (v : Half) (s : State) : (putT3 v s).script = s.script := (rfl)
@[simp] theorem putT3_draws (v : Half) (s : State) : (putT3 v s).draws = s.draws := (rfl)
@[simp] theorem putT3_history (v : Half) (s : State) : (putT3 v s).history = s.history := (rfl)
@[simp] theorem putT3_hostSeen (v : Half) (s : State) : (putT3 v s).hostSeen = s.hostSeen := (rfl)

@[simp] theorem putP1_calT (v : Half) (s : State) : (putP1 v s).calT = s.calT := (rfl)
@[simp] theorem putP1_calP (v : Half) (s : State) : (putP1 v s).calP = { s.calP with p1 := v } := (rfl)
@[simp] theorem putP1_calH (v : Half) (s : State) : (putP1 v s).calH = s.calH := (rfl)
@[simp] theorem putP1_rb (v : Half) (s : State) : (putP1 v s).rb = s.rb := (rfl)
@[simp] theorem putP1_adcP (v : Half) (s : State) : (putP1 v s).adcP = s.adcP := (rfl)
@[simp] theorem putP1_adcT (v : Half) (s : State) : (putP1 v s).adcT = s.adcT := (rfl)
@[simp] theorem putP1_adcH (v : Half) (s : State) : (putP1 v s).adcH = s.adcH := (rfl)
@[simp] theorem putP1_tfine (v : Half) (s : State) : (putP1 v s).tfine = s.tfine := (rfl)
@[simp] theorem putP1_tfv (v : Half) (s : State) : (putP1 v s).tfv = s.tfv := (rfl)
@[simp] theorem putP1_tOut (v : Half) (s : State) : (putP1 v s).tOut = s.tOut := (rfl)
@[simp] theorem putP1_hOut (v : Half) (s : State) : (putP1 v s).hOut = s.hOut := (rfl)
@[simp] theorem putP1_pOut (v : Half) (s : State) : (putP1 v s).pOut = s.pOut := (rfl)
@[simp] theorem putP1_phase (v : Half) (s : State) : (putP1 v s).phase = s.phase := (rfl)
@[simp] theorem putP1_lc (v : Half) (s : State) : (putP1 v s).lc = s.lc := (rfl)
@[simp] theorem putP1_busy (v : Half) (s : State) : (putP1 v s).busy = s.busy := (rfl)
@[simp] theorem putP1_rvalid (v : Half) (s : State) : (putP1 v s).rvalid = s.rvalid := (rfl)
@[simp] theorem putP1_err (v : Half) (s : State) : (putP1 v s).err = s.err := (rfl)
@[simp] theorem putP1_esticky (v : Half) (s : State) : (putP1 v s).esticky = s.esticky := (rfl)
@[simp] theorem putP1_params (v : Half) (s : State) : (putP1 v s).params = s.params := (rfl)
@[simp] theorem putP1_sensor (v : Half) (s : State) : (putP1 v s).sensor = s.sensor := (rfl)
@[simp] theorem putP1_transport (v : Half) (s : State) : (putP1 v s).transport = s.transport := (rfl)
@[simp] theorem putP1_script (v : Half) (s : State) : (putP1 v s).script = s.script := (rfl)
@[simp] theorem putP1_draws (v : Half) (s : State) : (putP1 v s).draws = s.draws := (rfl)
@[simp] theorem putP1_history (v : Half) (s : State) : (putP1 v s).history = s.history := (rfl)
@[simp] theorem putP1_hostSeen (v : Half) (s : State) : (putP1 v s).hostSeen = s.hostSeen := (rfl)

@[simp] theorem putP2_calT (v : Half) (s : State) : (putP2 v s).calT = s.calT := (rfl)
@[simp] theorem putP2_calP (v : Half) (s : State) : (putP2 v s).calP = { s.calP with p2 := v } := (rfl)
@[simp] theorem putP2_calH (v : Half) (s : State) : (putP2 v s).calH = s.calH := (rfl)
@[simp] theorem putP2_rb (v : Half) (s : State) : (putP2 v s).rb = s.rb := (rfl)
@[simp] theorem putP2_adcP (v : Half) (s : State) : (putP2 v s).adcP = s.adcP := (rfl)
@[simp] theorem putP2_adcT (v : Half) (s : State) : (putP2 v s).adcT = s.adcT := (rfl)
@[simp] theorem putP2_adcH (v : Half) (s : State) : (putP2 v s).adcH = s.adcH := (rfl)
@[simp] theorem putP2_tfine (v : Half) (s : State) : (putP2 v s).tfine = s.tfine := (rfl)
@[simp] theorem putP2_tfv (v : Half) (s : State) : (putP2 v s).tfv = s.tfv := (rfl)
@[simp] theorem putP2_tOut (v : Half) (s : State) : (putP2 v s).tOut = s.tOut := (rfl)
@[simp] theorem putP2_hOut (v : Half) (s : State) : (putP2 v s).hOut = s.hOut := (rfl)
@[simp] theorem putP2_pOut (v : Half) (s : State) : (putP2 v s).pOut = s.pOut := (rfl)
@[simp] theorem putP2_phase (v : Half) (s : State) : (putP2 v s).phase = s.phase := (rfl)
@[simp] theorem putP2_lc (v : Half) (s : State) : (putP2 v s).lc = s.lc := (rfl)
@[simp] theorem putP2_busy (v : Half) (s : State) : (putP2 v s).busy = s.busy := (rfl)
@[simp] theorem putP2_rvalid (v : Half) (s : State) : (putP2 v s).rvalid = s.rvalid := (rfl)
@[simp] theorem putP2_err (v : Half) (s : State) : (putP2 v s).err = s.err := (rfl)
@[simp] theorem putP2_esticky (v : Half) (s : State) : (putP2 v s).esticky = s.esticky := (rfl)
@[simp] theorem putP2_params (v : Half) (s : State) : (putP2 v s).params = s.params := (rfl)
@[simp] theorem putP2_sensor (v : Half) (s : State) : (putP2 v s).sensor = s.sensor := (rfl)
@[simp] theorem putP2_transport (v : Half) (s : State) : (putP2 v s).transport = s.transport := (rfl)
@[simp] theorem putP2_script (v : Half) (s : State) : (putP2 v s).script = s.script := (rfl)
@[simp] theorem putP2_draws (v : Half) (s : State) : (putP2 v s).draws = s.draws := (rfl)
@[simp] theorem putP2_history (v : Half) (s : State) : (putP2 v s).history = s.history := (rfl)
@[simp] theorem putP2_hostSeen (v : Half) (s : State) : (putP2 v s).hostSeen = s.hostSeen := (rfl)

@[simp] theorem putP3_calT (v : Half) (s : State) : (putP3 v s).calT = s.calT := (rfl)
@[simp] theorem putP3_calP (v : Half) (s : State) : (putP3 v s).calP = { s.calP with p3 := v } := (rfl)
@[simp] theorem putP3_calH (v : Half) (s : State) : (putP3 v s).calH = s.calH := (rfl)
@[simp] theorem putP3_rb (v : Half) (s : State) : (putP3 v s).rb = s.rb := (rfl)
@[simp] theorem putP3_adcP (v : Half) (s : State) : (putP3 v s).adcP = s.adcP := (rfl)
@[simp] theorem putP3_adcT (v : Half) (s : State) : (putP3 v s).adcT = s.adcT := (rfl)
@[simp] theorem putP3_adcH (v : Half) (s : State) : (putP3 v s).adcH = s.adcH := (rfl)
@[simp] theorem putP3_tfine (v : Half) (s : State) : (putP3 v s).tfine = s.tfine := (rfl)
@[simp] theorem putP3_tfv (v : Half) (s : State) : (putP3 v s).tfv = s.tfv := (rfl)
@[simp] theorem putP3_tOut (v : Half) (s : State) : (putP3 v s).tOut = s.tOut := (rfl)
@[simp] theorem putP3_hOut (v : Half) (s : State) : (putP3 v s).hOut = s.hOut := (rfl)
@[simp] theorem putP3_pOut (v : Half) (s : State) : (putP3 v s).pOut = s.pOut := (rfl)
@[simp] theorem putP3_phase (v : Half) (s : State) : (putP3 v s).phase = s.phase := (rfl)
@[simp] theorem putP3_lc (v : Half) (s : State) : (putP3 v s).lc = s.lc := (rfl)
@[simp] theorem putP3_busy (v : Half) (s : State) : (putP3 v s).busy = s.busy := (rfl)
@[simp] theorem putP3_rvalid (v : Half) (s : State) : (putP3 v s).rvalid = s.rvalid := (rfl)
@[simp] theorem putP3_err (v : Half) (s : State) : (putP3 v s).err = s.err := (rfl)
@[simp] theorem putP3_esticky (v : Half) (s : State) : (putP3 v s).esticky = s.esticky := (rfl)
@[simp] theorem putP3_params (v : Half) (s : State) : (putP3 v s).params = s.params := (rfl)
@[simp] theorem putP3_sensor (v : Half) (s : State) : (putP3 v s).sensor = s.sensor := (rfl)
@[simp] theorem putP3_transport (v : Half) (s : State) : (putP3 v s).transport = s.transport := (rfl)
@[simp] theorem putP3_script (v : Half) (s : State) : (putP3 v s).script = s.script := (rfl)
@[simp] theorem putP3_draws (v : Half) (s : State) : (putP3 v s).draws = s.draws := (rfl)
@[simp] theorem putP3_history (v : Half) (s : State) : (putP3 v s).history = s.history := (rfl)
@[simp] theorem putP3_hostSeen (v : Half) (s : State) : (putP3 v s).hostSeen = s.hostSeen := (rfl)

@[simp] theorem putP4_calT (v : Half) (s : State) : (putP4 v s).calT = s.calT := (rfl)
@[simp] theorem putP4_calP (v : Half) (s : State) : (putP4 v s).calP = { s.calP with p4 := v } := (rfl)
@[simp] theorem putP4_calH (v : Half) (s : State) : (putP4 v s).calH = s.calH := (rfl)
@[simp] theorem putP4_rb (v : Half) (s : State) : (putP4 v s).rb = s.rb := (rfl)
@[simp] theorem putP4_adcP (v : Half) (s : State) : (putP4 v s).adcP = s.adcP := (rfl)
@[simp] theorem putP4_adcT (v : Half) (s : State) : (putP4 v s).adcT = s.adcT := (rfl)
@[simp] theorem putP4_adcH (v : Half) (s : State) : (putP4 v s).adcH = s.adcH := (rfl)
@[simp] theorem putP4_tfine (v : Half) (s : State) : (putP4 v s).tfine = s.tfine := (rfl)
@[simp] theorem putP4_tfv (v : Half) (s : State) : (putP4 v s).tfv = s.tfv := (rfl)
@[simp] theorem putP4_tOut (v : Half) (s : State) : (putP4 v s).tOut = s.tOut := (rfl)
@[simp] theorem putP4_hOut (v : Half) (s : State) : (putP4 v s).hOut = s.hOut := (rfl)
@[simp] theorem putP4_pOut (v : Half) (s : State) : (putP4 v s).pOut = s.pOut := (rfl)
@[simp] theorem putP4_phase (v : Half) (s : State) : (putP4 v s).phase = s.phase := (rfl)
@[simp] theorem putP4_lc (v : Half) (s : State) : (putP4 v s).lc = s.lc := (rfl)
@[simp] theorem putP4_busy (v : Half) (s : State) : (putP4 v s).busy = s.busy := (rfl)
@[simp] theorem putP4_rvalid (v : Half) (s : State) : (putP4 v s).rvalid = s.rvalid := (rfl)
@[simp] theorem putP4_err (v : Half) (s : State) : (putP4 v s).err = s.err := (rfl)
@[simp] theorem putP4_esticky (v : Half) (s : State) : (putP4 v s).esticky = s.esticky := (rfl)
@[simp] theorem putP4_params (v : Half) (s : State) : (putP4 v s).params = s.params := (rfl)
@[simp] theorem putP4_sensor (v : Half) (s : State) : (putP4 v s).sensor = s.sensor := (rfl)
@[simp] theorem putP4_transport (v : Half) (s : State) : (putP4 v s).transport = s.transport := (rfl)
@[simp] theorem putP4_script (v : Half) (s : State) : (putP4 v s).script = s.script := (rfl)
@[simp] theorem putP4_draws (v : Half) (s : State) : (putP4 v s).draws = s.draws := (rfl)
@[simp] theorem putP4_history (v : Half) (s : State) : (putP4 v s).history = s.history := (rfl)
@[simp] theorem putP4_hostSeen (v : Half) (s : State) : (putP4 v s).hostSeen = s.hostSeen := (rfl)

@[simp] theorem putP5_calT (v : Half) (s : State) : (putP5 v s).calT = s.calT := (rfl)
@[simp] theorem putP5_calP (v : Half) (s : State) : (putP5 v s).calP = { s.calP with p5 := v } := (rfl)
@[simp] theorem putP5_calH (v : Half) (s : State) : (putP5 v s).calH = s.calH := (rfl)
@[simp] theorem putP5_rb (v : Half) (s : State) : (putP5 v s).rb = s.rb := (rfl)
@[simp] theorem putP5_adcP (v : Half) (s : State) : (putP5 v s).adcP = s.adcP := (rfl)
@[simp] theorem putP5_adcT (v : Half) (s : State) : (putP5 v s).adcT = s.adcT := (rfl)
@[simp] theorem putP5_adcH (v : Half) (s : State) : (putP5 v s).adcH = s.adcH := (rfl)
@[simp] theorem putP5_tfine (v : Half) (s : State) : (putP5 v s).tfine = s.tfine := (rfl)
@[simp] theorem putP5_tfv (v : Half) (s : State) : (putP5 v s).tfv = s.tfv := (rfl)
@[simp] theorem putP5_tOut (v : Half) (s : State) : (putP5 v s).tOut = s.tOut := (rfl)
@[simp] theorem putP5_hOut (v : Half) (s : State) : (putP5 v s).hOut = s.hOut := (rfl)
@[simp] theorem putP5_pOut (v : Half) (s : State) : (putP5 v s).pOut = s.pOut := (rfl)
@[simp] theorem putP5_phase (v : Half) (s : State) : (putP5 v s).phase = s.phase := (rfl)
@[simp] theorem putP5_lc (v : Half) (s : State) : (putP5 v s).lc = s.lc := (rfl)
@[simp] theorem putP5_busy (v : Half) (s : State) : (putP5 v s).busy = s.busy := (rfl)
@[simp] theorem putP5_rvalid (v : Half) (s : State) : (putP5 v s).rvalid = s.rvalid := (rfl)
@[simp] theorem putP5_err (v : Half) (s : State) : (putP5 v s).err = s.err := (rfl)
@[simp] theorem putP5_esticky (v : Half) (s : State) : (putP5 v s).esticky = s.esticky := (rfl)
@[simp] theorem putP5_params (v : Half) (s : State) : (putP5 v s).params = s.params := (rfl)
@[simp] theorem putP5_sensor (v : Half) (s : State) : (putP5 v s).sensor = s.sensor := (rfl)
@[simp] theorem putP5_transport (v : Half) (s : State) : (putP5 v s).transport = s.transport := (rfl)
@[simp] theorem putP5_script (v : Half) (s : State) : (putP5 v s).script = s.script := (rfl)
@[simp] theorem putP5_draws (v : Half) (s : State) : (putP5 v s).draws = s.draws := (rfl)
@[simp] theorem putP5_history (v : Half) (s : State) : (putP5 v s).history = s.history := (rfl)
@[simp] theorem putP5_hostSeen (v : Half) (s : State) : (putP5 v s).hostSeen = s.hostSeen := (rfl)

@[simp] theorem putP6_calT (v : Half) (s : State) : (putP6 v s).calT = s.calT := (rfl)
@[simp] theorem putP6_calP (v : Half) (s : State) : (putP6 v s).calP = { s.calP with p6 := v } := (rfl)
@[simp] theorem putP6_calH (v : Half) (s : State) : (putP6 v s).calH = s.calH := (rfl)
@[simp] theorem putP6_rb (v : Half) (s : State) : (putP6 v s).rb = s.rb := (rfl)
@[simp] theorem putP6_adcP (v : Half) (s : State) : (putP6 v s).adcP = s.adcP := (rfl)
@[simp] theorem putP6_adcT (v : Half) (s : State) : (putP6 v s).adcT = s.adcT := (rfl)
@[simp] theorem putP6_adcH (v : Half) (s : State) : (putP6 v s).adcH = s.adcH := (rfl)
@[simp] theorem putP6_tfine (v : Half) (s : State) : (putP6 v s).tfine = s.tfine := (rfl)
@[simp] theorem putP6_tfv (v : Half) (s : State) : (putP6 v s).tfv = s.tfv := (rfl)
@[simp] theorem putP6_tOut (v : Half) (s : State) : (putP6 v s).tOut = s.tOut := (rfl)
@[simp] theorem putP6_hOut (v : Half) (s : State) : (putP6 v s).hOut = s.hOut := (rfl)
@[simp] theorem putP6_pOut (v : Half) (s : State) : (putP6 v s).pOut = s.pOut := (rfl)
@[simp] theorem putP6_phase (v : Half) (s : State) : (putP6 v s).phase = s.phase := (rfl)
@[simp] theorem putP6_lc (v : Half) (s : State) : (putP6 v s).lc = s.lc := (rfl)
@[simp] theorem putP6_busy (v : Half) (s : State) : (putP6 v s).busy = s.busy := (rfl)
@[simp] theorem putP6_rvalid (v : Half) (s : State) : (putP6 v s).rvalid = s.rvalid := (rfl)
@[simp] theorem putP6_err (v : Half) (s : State) : (putP6 v s).err = s.err := (rfl)
@[simp] theorem putP6_esticky (v : Half) (s : State) : (putP6 v s).esticky = s.esticky := (rfl)
@[simp] theorem putP6_params (v : Half) (s : State) : (putP6 v s).params = s.params := (rfl)
@[simp] theorem putP6_sensor (v : Half) (s : State) : (putP6 v s).sensor = s.sensor := (rfl)
@[simp] theorem putP6_transport (v : Half) (s : State) : (putP6 v s).transport = s.transport := (rfl)
@[simp] theorem putP6_script (v : Half) (s : State) : (putP6 v s).script = s.script := (rfl)
@[simp] theorem putP6_draws (v : Half) (s : State) : (putP6 v s).draws = s.draws := (rfl)
@[simp] theorem putP6_history (v : Half) (s : State) : (putP6 v s).history = s.history := (rfl)
@[simp] theorem putP6_hostSeen (v : Half) (s : State) : (putP6 v s).hostSeen = s.hostSeen := (rfl)

@[simp] theorem putP7_calT (v : Half) (s : State) : (putP7 v s).calT = s.calT := (rfl)
@[simp] theorem putP7_calP (v : Half) (s : State) : (putP7 v s).calP = { s.calP with p7 := v } := (rfl)
@[simp] theorem putP7_calH (v : Half) (s : State) : (putP7 v s).calH = s.calH := (rfl)
@[simp] theorem putP7_rb (v : Half) (s : State) : (putP7 v s).rb = s.rb := (rfl)
@[simp] theorem putP7_adcP (v : Half) (s : State) : (putP7 v s).adcP = s.adcP := (rfl)
@[simp] theorem putP7_adcT (v : Half) (s : State) : (putP7 v s).adcT = s.adcT := (rfl)
@[simp] theorem putP7_adcH (v : Half) (s : State) : (putP7 v s).adcH = s.adcH := (rfl)
@[simp] theorem putP7_tfine (v : Half) (s : State) : (putP7 v s).tfine = s.tfine := (rfl)
@[simp] theorem putP7_tfv (v : Half) (s : State) : (putP7 v s).tfv = s.tfv := (rfl)
@[simp] theorem putP7_tOut (v : Half) (s : State) : (putP7 v s).tOut = s.tOut := (rfl)
@[simp] theorem putP7_hOut (v : Half) (s : State) : (putP7 v s).hOut = s.hOut := (rfl)
@[simp] theorem putP7_pOut (v : Half) (s : State) : (putP7 v s).pOut = s.pOut := (rfl)
@[simp] theorem putP7_phase (v : Half) (s : State) : (putP7 v s).phase = s.phase := (rfl)
@[simp] theorem putP7_lc (v : Half) (s : State) : (putP7 v s).lc = s.lc := (rfl)
@[simp] theorem putP7_busy (v : Half) (s : State) : (putP7 v s).busy = s.busy := (rfl)
@[simp] theorem putP7_rvalid (v : Half) (s : State) : (putP7 v s).rvalid = s.rvalid := (rfl)
@[simp] theorem putP7_err (v : Half) (s : State) : (putP7 v s).err = s.err := (rfl)
@[simp] theorem putP7_esticky (v : Half) (s : State) : (putP7 v s).esticky = s.esticky := (rfl)
@[simp] theorem putP7_params (v : Half) (s : State) : (putP7 v s).params = s.params := (rfl)
@[simp] theorem putP7_sensor (v : Half) (s : State) : (putP7 v s).sensor = s.sensor := (rfl)
@[simp] theorem putP7_transport (v : Half) (s : State) : (putP7 v s).transport = s.transport := (rfl)
@[simp] theorem putP7_script (v : Half) (s : State) : (putP7 v s).script = s.script := (rfl)
@[simp] theorem putP7_draws (v : Half) (s : State) : (putP7 v s).draws = s.draws := (rfl)
@[simp] theorem putP7_history (v : Half) (s : State) : (putP7 v s).history = s.history := (rfl)
@[simp] theorem putP7_hostSeen (v : Half) (s : State) : (putP7 v s).hostSeen = s.hostSeen := (rfl)

@[simp] theorem putP8_calT (v : Half) (s : State) : (putP8 v s).calT = s.calT := (rfl)
@[simp] theorem putP8_calP (v : Half) (s : State) : (putP8 v s).calP = { s.calP with p8 := v } := (rfl)
@[simp] theorem putP8_calH (v : Half) (s : State) : (putP8 v s).calH = s.calH := (rfl)
@[simp] theorem putP8_rb (v : Half) (s : State) : (putP8 v s).rb = s.rb := (rfl)
@[simp] theorem putP8_adcP (v : Half) (s : State) : (putP8 v s).adcP = s.adcP := (rfl)
@[simp] theorem putP8_adcT (v : Half) (s : State) : (putP8 v s).adcT = s.adcT := (rfl)
@[simp] theorem putP8_adcH (v : Half) (s : State) : (putP8 v s).adcH = s.adcH := (rfl)
@[simp] theorem putP8_tfine (v : Half) (s : State) : (putP8 v s).tfine = s.tfine := (rfl)
@[simp] theorem putP8_tfv (v : Half) (s : State) : (putP8 v s).tfv = s.tfv := (rfl)
@[simp] theorem putP8_tOut (v : Half) (s : State) : (putP8 v s).tOut = s.tOut := (rfl)
@[simp] theorem putP8_hOut (v : Half) (s : State) : (putP8 v s).hOut = s.hOut := (rfl)
@[simp] theorem putP8_pOut (v : Half) (s : State) : (putP8 v s).pOut = s.pOut := (rfl)
@[simp] theorem putP8_phase (v : Half) (s : State) : (putP8 v s).phase = s.phase := (rfl)
@[simp] theorem putP8_lc (v : Half) (s : State) : (putP8 v s).lc = s.lc := (rfl)
@[simp] theorem putP8_busy (v : Half) (s : State) : (putP8 v s).busy = s.busy := (rfl)
@[simp] theorem putP8_rvalid (v : Half) (s : State) : (putP8 v s).rvalid = s.rvalid := (rfl)
@[simp] theorem putP8_err (v : Half) (s : State) : (putP8 v s).err = s.err := (rfl)
@[simp] theorem putP8_esticky (v : Half) (s : State) : (putP8 v s).esticky = s.esticky := (rfl)
@[simp] theorem putP8_params (v : Half) (s : State) : (putP8 v s).params = s.params := (rfl)
@[simp] theorem putP8_sensor (v : Half) (s : State) : (putP8 v s).sensor = s.sensor := (rfl)
@[simp] theorem putP8_transport (v : Half) (s : State) : (putP8 v s).transport = s.transport := (rfl)
@[simp] theorem putP8_script (v : Half) (s : State) : (putP8 v s).script = s.script := (rfl)
@[simp] theorem putP8_draws (v : Half) (s : State) : (putP8 v s).draws = s.draws := (rfl)
@[simp] theorem putP8_history (v : Half) (s : State) : (putP8 v s).history = s.history := (rfl)
@[simp] theorem putP8_hostSeen (v : Half) (s : State) : (putP8 v s).hostSeen = s.hostSeen := (rfl)

@[simp] theorem putP9_calT (v : Half) (s : State) : (putP9 v s).calT = s.calT := (rfl)
@[simp] theorem putP9_calP (v : Half) (s : State) : (putP9 v s).calP = { s.calP with p9 := v } := (rfl)
@[simp] theorem putP9_calH (v : Half) (s : State) : (putP9 v s).calH = s.calH := (rfl)
@[simp] theorem putP9_rb (v : Half) (s : State) : (putP9 v s).rb = s.rb := (rfl)
@[simp] theorem putP9_adcP (v : Half) (s : State) : (putP9 v s).adcP = s.adcP := (rfl)
@[simp] theorem putP9_adcT (v : Half) (s : State) : (putP9 v s).adcT = s.adcT := (rfl)
@[simp] theorem putP9_adcH (v : Half) (s : State) : (putP9 v s).adcH = s.adcH := (rfl)
@[simp] theorem putP9_tfine (v : Half) (s : State) : (putP9 v s).tfine = s.tfine := (rfl)
@[simp] theorem putP9_tfv (v : Half) (s : State) : (putP9 v s).tfv = s.tfv := (rfl)
@[simp] theorem putP9_tOut (v : Half) (s : State) : (putP9 v s).tOut = s.tOut := (rfl)
@[simp] theorem putP9_hOut (v : Half) (s : State) : (putP9 v s).hOut = s.hOut := (rfl)
@[simp] theorem putP9_pOut (v : Half) (s : State) : (putP9 v s).pOut = s.pOut := (rfl)
@[simp] theorem putP9_phase (v : Half) (s : State) : (putP9 v s).phase = s.phase := (rfl)
@[simp] theorem putP9_lc (v : Half) (s : State) : (putP9 v s).lc = s.lc := (rfl)
@[simp] theorem putP9_busy (v : Half) (s : State) : (putP9 v s).busy = s.busy := (rfl)
@[simp] theorem putP9_rvalid (v : Half) (s : State) : (putP9 v s).rvalid = s.rvalid := (rfl)
@[simp] theorem putP9_err (v : Half) (s : State) : (putP9 v s).err = s.err := (rfl)
@[simp] theorem putP9_esticky (v : Half) (s : State) : (putP9 v s).esticky = s.esticky := (rfl)
@[simp] theorem putP9_params (v : Half) (s : State) : (putP9 v s).params = s.params := (rfl)
@[simp] theorem putP9_sensor (v : Half) (s : State) : (putP9 v s).sensor = s.sensor := (rfl)
@[simp] theorem putP9_transport (v : Half) (s : State) : (putP9 v s).transport = s.transport := (rfl)
@[simp] theorem putP9_script (v : Half) (s : State) : (putP9 v s).script = s.script := (rfl)
@[simp] theorem putP9_draws (v : Half) (s : State) : (putP9 v s).draws = s.draws := (rfl)
@[simp] theorem putP9_history (v : Half) (s : State) : (putP9 v s).history = s.history := (rfl)
@[simp] theorem putP9_hostSeen (v : Half) (s : State) : (putP9 v s).hostSeen = s.hostSeen := (rfl)

@[simp] theorem putH1_calT (v : Byte) (s : State) : (putH1 v s).calT = s.calT := (rfl)
@[simp] theorem putH1_calP (v : Byte) (s : State) : (putH1 v s).calP = s.calP := (rfl)
@[simp] theorem putH1_calH (v : Byte) (s : State) : (putH1 v s).calH = { s.calH with h1 := v } := (rfl)
@[simp] theorem putH1_rb (v : Byte) (s : State) : (putH1 v s).rb = s.rb := (rfl)
@[simp] theorem putH1_adcP (v : Byte) (s : State) : (putH1 v s).adcP = s.adcP := (rfl)
@[simp] theorem putH1_adcT (v : Byte) (s : State) : (putH1 v s).adcT = s.adcT := (rfl)
@[simp] theorem putH1_adcH (v : Byte) (s : State) : (putH1 v s).adcH = s.adcH := (rfl)
@[simp] theorem putH1_tfine (v : Byte) (s : State) : (putH1 v s).tfine = s.tfine := (rfl)
@[simp] theorem putH1_tfv (v : Byte) (s : State) : (putH1 v s).tfv = s.tfv := (rfl)
@[simp] theorem putH1_tOut (v : Byte) (s : State) : (putH1 v s).tOut = s.tOut := (rfl)
@[simp] theorem putH1_hOut (v : Byte) (s : State) : (putH1 v s).hOut = s.hOut := (rfl)
@[simp] theorem putH1_pOut (v : Byte) (s : State) : (putH1 v s).pOut = s.pOut := (rfl)
@[simp] theorem putH1_phase (v : Byte) (s : State) : (putH1 v s).phase = s.phase := (rfl)
@[simp] theorem putH1_lc (v : Byte) (s : State) : (putH1 v s).lc = s.lc := (rfl)
@[simp] theorem putH1_busy (v : Byte) (s : State) : (putH1 v s).busy = s.busy := (rfl)
@[simp] theorem putH1_rvalid (v : Byte) (s : State) : (putH1 v s).rvalid = s.rvalid := (rfl)
@[simp] theorem putH1_err (v : Byte) (s : State) : (putH1 v s).err = s.err := (rfl)
@[simp] theorem putH1_esticky (v : Byte) (s : State) : (putH1 v s).esticky = s.esticky := (rfl)
@[simp] theorem putH1_params (v : Byte) (s : State) : (putH1 v s).params = s.params := (rfl)
@[simp] theorem putH1_sensor (v : Byte) (s : State) : (putH1 v s).sensor = s.sensor := (rfl)
@[simp] theorem putH1_transport (v : Byte) (s : State) : (putH1 v s).transport = s.transport := (rfl)
@[simp] theorem putH1_script (v : Byte) (s : State) : (putH1 v s).script = s.script := (rfl)
@[simp] theorem putH1_draws (v : Byte) (s : State) : (putH1 v s).draws = s.draws := (rfl)
@[simp] theorem putH1_history (v : Byte) (s : State) : (putH1 v s).history = s.history := (rfl)
@[simp] theorem putH1_hostSeen (v : Byte) (s : State) : (putH1 v s).hostSeen = s.hostSeen := (rfl)

@[simp] theorem putH2_calT (v : Half) (s : State) : (putH2 v s).calT = s.calT := (rfl)
@[simp] theorem putH2_calP (v : Half) (s : State) : (putH2 v s).calP = s.calP := (rfl)
@[simp] theorem putH2_calH (v : Half) (s : State) : (putH2 v s).calH = { s.calH with h2 := v } := (rfl)
@[simp] theorem putH2_rb (v : Half) (s : State) : (putH2 v s).rb = s.rb := (rfl)
@[simp] theorem putH2_adcP (v : Half) (s : State) : (putH2 v s).adcP = s.adcP := (rfl)
@[simp] theorem putH2_adcT (v : Half) (s : State) : (putH2 v s).adcT = s.adcT := (rfl)
@[simp] theorem putH2_adcH (v : Half) (s : State) : (putH2 v s).adcH = s.adcH := (rfl)
@[simp] theorem putH2_tfine (v : Half) (s : State) : (putH2 v s).tfine = s.tfine := (rfl)
@[simp] theorem putH2_tfv (v : Half) (s : State) : (putH2 v s).tfv = s.tfv := (rfl)
@[simp] theorem putH2_tOut (v : Half) (s : State) : (putH2 v s).tOut = s.tOut := (rfl)
@[simp] theorem putH2_hOut (v : Half) (s : State) : (putH2 v s).hOut = s.hOut := (rfl)
@[simp] theorem putH2_pOut (v : Half) (s : State) : (putH2 v s).pOut = s.pOut := (rfl)
@[simp] theorem putH2_phase (v : Half) (s : State) : (putH2 v s).phase = s.phase := (rfl)
@[simp] theorem putH2_lc (v : Half) (s : State) : (putH2 v s).lc = s.lc := (rfl)
@[simp] theorem putH2_busy (v : Half) (s : State) : (putH2 v s).busy = s.busy := (rfl)
@[simp] theorem putH2_rvalid (v : Half) (s : State) : (putH2 v s).rvalid = s.rvalid := (rfl)
@[simp] theorem putH2_err (v : Half) (s : State) : (putH2 v s).err = s.err := (rfl)
@[simp] theorem putH2_esticky (v : Half) (s : State) : (putH2 v s).esticky = s.esticky := (rfl)
@[simp] theorem putH2_params (v : Half) (s : State) : (putH2 v s).params = s.params := (rfl)
@[simp] theorem putH2_sensor (v : Half) (s : State) : (putH2 v s).sensor = s.sensor := (rfl)
@[simp] theorem putH2_transport (v : Half) (s : State) : (putH2 v s).transport = s.transport := (rfl)
@[simp] theorem putH2_script (v : Half) (s : State) : (putH2 v s).script = s.script := (rfl)
@[simp] theorem putH2_draws (v : Half) (s : State) : (putH2 v s).draws = s.draws := (rfl)
@[simp] theorem putH2_history (v : Half) (s : State) : (putH2 v s).history = s.history := (rfl)
@[simp] theorem putH2_hostSeen (v : Half) (s : State) : (putH2 v s).hostSeen = s.hostSeen := (rfl)

@[simp] theorem putH3_calT (v : Byte) (s : State) : (putH3 v s).calT = s.calT := (rfl)
@[simp] theorem putH3_calP (v : Byte) (s : State) : (putH3 v s).calP = s.calP := (rfl)
@[simp] theorem putH3_calH (v : Byte) (s : State) : (putH3 v s).calH = { s.calH with h3 := v } := (rfl)
@[simp] theorem putH3_rb (v : Byte) (s : State) : (putH3 v s).rb = s.rb := (rfl)
@[simp] theorem putH3_adcP (v : Byte) (s : State) : (putH3 v s).adcP = s.adcP := (rfl)
@[simp] theorem putH3_adcT (v : Byte) (s : State) : (putH3 v s).adcT = s.adcT := (rfl)
@[simp] theorem putH3_adcH (v : Byte) (s : State) : (putH3 v s).adcH = s.adcH := (rfl)
@[simp] theorem putH3_tfine (v : Byte) (s : State) : (putH3 v s).tfine = s.tfine := (rfl)
@[simp] theorem putH3_tfv (v : Byte) (s : State) : (putH3 v s).tfv = s.tfv := (rfl)
@[simp] theorem putH3_tOut (v : Byte) (s : State) : (putH3 v s).tOut = s.tOut := (rfl)
@[simp] theorem putH3_hOut (v : Byte) (s : State) : (putH3 v s).hOut = s.hOut := (rfl)
@[simp] theorem putH3_pOut (v : Byte) (s : State) : (putH3 v s).pOut = s.pOut := (rfl)
@[simp] theorem putH3_phase (v : Byte) (s : State) : (putH3 v s).phase = s.phase := (rfl)
@[simp] theorem putH3_lc (v : Byte) (s : State) : (putH3 v s).lc = s.lc := (rfl)
@[simp] theorem putH3_busy (v : Byte) (s : State) : (putH3 v s).busy = s.busy := (rfl)
@[simp] theorem putH3_rvalid (v : Byte) (s : State) : (putH3 v s).rvalid = s.rvalid := (rfl)
@[simp] theorem putH3_err (v : Byte) (s : State) : (putH3 v s).err = s.err := (rfl)
@[simp] theorem putH3_esticky (v : Byte) (s : State) : (putH3 v s).esticky = s.esticky := (rfl)
@[simp] theorem putH3_params (v : Byte) (s : State) : (putH3 v s).params = s.params := (rfl)
@[simp] theorem putH3_sensor (v : Byte) (s : State) : (putH3 v s).sensor = s.sensor := (rfl)
@[simp] theorem putH3_transport (v : Byte) (s : State) : (putH3 v s).transport = s.transport := (rfl)
@[simp] theorem putH3_script (v : Byte) (s : State) : (putH3 v s).script = s.script := (rfl)
@[simp] theorem putH3_draws (v : Byte) (s : State) : (putH3 v s).draws = s.draws := (rfl)
@[simp] theorem putH3_history (v : Byte) (s : State) : (putH3 v s).history = s.history := (rfl)
@[simp] theorem putH3_hostSeen (v : Byte) (s : State) : (putH3 v s).hostSeen = s.hostSeen := (rfl)

@[simp] theorem putH4_calT (v : Half) (s : State) : (putH4 v s).calT = s.calT := (rfl)
@[simp] theorem putH4_calP (v : Half) (s : State) : (putH4 v s).calP = s.calP := (rfl)
@[simp] theorem putH4_calH (v : Half) (s : State) : (putH4 v s).calH = { s.calH with h4 := v } := (rfl)
@[simp] theorem putH4_rb (v : Half) (s : State) : (putH4 v s).rb = s.rb := (rfl)
@[simp] theorem putH4_adcP (v : Half) (s : State) : (putH4 v s).adcP = s.adcP := (rfl)
@[simp] theorem putH4_adcT (v : Half) (s : State) : (putH4 v s).adcT = s.adcT := (rfl)
@[simp] theorem putH4_adcH (v : Half) (s : State) : (putH4 v s).adcH = s.adcH := (rfl)
@[simp] theorem putH4_tfine (v : Half) (s : State) : (putH4 v s).tfine = s.tfine := (rfl)
@[simp] theorem putH4_tfv (v : Half) (s : State) : (putH4 v s).tfv = s.tfv := (rfl)
@[simp] theorem putH4_tOut (v : Half) (s : State) : (putH4 v s).tOut = s.tOut := (rfl)
@[simp] theorem putH4_hOut (v : Half) (s : State) : (putH4 v s).hOut = s.hOut := (rfl)
@[simp] theorem putH4_pOut (v : Half) (s : State) : (putH4 v s).pOut = s.pOut := (rfl)
@[simp] theorem putH4_phase (v : Half) (s : State) : (putH4 v s).phase = s.phase := (rfl)
@[simp] theorem putH4_lc (v : Half) (s : State) : (putH4 v s).lc = s.lc := (rfl)
@[simp] theorem putH4_busy (v : Half) (s : State) : (putH4 v s).busy = s.busy := (rfl)
@[simp] theorem putH4_rvalid (v : Half) (s : State) : (putH4 v s).rvalid = s.rvalid := (rfl)
@[simp] theorem putH4_err (v : Half) (s : State) : (putH4 v s).err = s.err := (rfl)
@[simp] theorem putH4_esticky (v : Half) (s : State) : (putH4 v s).esticky = s.esticky := (rfl)
@[simp] theorem putH4_params (v : Half) (s : State) : (putH4 v s).params = s.params := (rfl)
@[simp] theorem putH4_sensor (v : Half) (s : State) : (putH4 v s).sensor = s.sensor := (rfl)
@[simp] theorem putH4_transport (v : Half) (s : State) : (putH4 v s).transport = s.transport := (rfl)
@[simp] theorem putH4_script (v : Half) (s : State) : (putH4 v s).script = s.script := (rfl)
@[simp] theorem putH4_draws (v : Half) (s : State) : (putH4 v s).draws = s.draws := (rfl)
@[simp] theorem putH4_history (v : Half) (s : State) : (putH4 v s).history = s.history := (rfl)
@[simp] theorem putH4_hostSeen (v : Half) (s : State) : (putH4 v s).hostSeen = s.hostSeen := (rfl)

@[simp] theorem putH5_calT (v : Half) (s : State) : (putH5 v s).calT = s.calT := (rfl)
@[simp] theorem putH5_calP (v : Half) (s : State) : (putH5 v s).calP = s.calP := (rfl)
@[simp] theorem putH5_calH (v : Half) (s : State) : (putH5 v s).calH = { s.calH with h5 := v } := (rfl)
@[simp] theorem putH5_rb (v : Half) (s : State) : (putH5 v s).rb = s.rb := (rfl)
@[simp] theorem putH5_adcP (v : Half) (s : State) : (putH5 v s).adcP = s.adcP := (rfl)
@[simp] theorem putH5_adcT (v : Half) (s : State) : (putH5 v s).adcT = s.adcT := (rfl)
@[simp] theorem putH5_adcH (v : Half) (s : State) : (putH5 v s).adcH = s.adcH := (rfl)
@[simp] theorem putH5_tfine (v : Half) (s : State) : (putH5 v s).tfine = s.tfine := (rfl)
@[simp] theorem putH5_tfv (v : Half) (s : State) : (putH5 v s).tfv = s.tfv := (rfl)
@[simp] theorem putH5_tOut (v : Half) (s : State) : (putH5 v s).tOut = s.tOut := (rfl)
@[simp] theorem putH5_hOut (v : Half) (s : State) : (putH5 v s).hOut = s.hOut := (rfl)
@[simp] theorem putH5_pOut (v : Half) (s : State) : (putH5 v s).pOut = s.pOut := (rfl)
@[simp] theorem putH5_phase (v : Half) (s : State) : (putH5 v s).phase = s.phase := (rfl)
@[simp] theorem putH5_lc (v : Half) (s : State) : (putH5 v s).lc = s.lc := (rfl)
@[simp] theorem putH5_busy (v : Half) (s : State) : (putH5 v s).busy = s.busy := (rfl)
@[simp] theorem putH5_rvalid (v : Half) (s : State) : (putH5 v s).rvalid = s.rvalid := (rfl)
@[simp] theorem putH5_err (v : Half) (s : State) : (putH5 v s).err = s.err := (rfl)
@[simp] theorem putH5_esticky (v : Half) (s : State) : (putH5 v s).esticky = s.esticky := (rfl)
@[simp] theorem putH5_params (v : Half) (s : State) : (putH5 v s).params = s.params := (rfl)
@[simp] theorem putH5_sensor (v : Half) (s : State) : (putH5 v s).sensor = s.sensor := (rfl)
@[simp] theorem putH5_transport (v : Half) (s : State) : (putH5 v s).transport = s.transport := (rfl)
@[simp] theorem putH5_script (v : Half) (s : State) : (putH5 v s).script = s.script := (rfl)
@[simp] theorem putH5_draws (v : Half) (s : State) : (putH5 v s).draws = s.draws := (rfl)
@[simp] theorem putH5_history (v : Half) (s : State) : (putH5 v s).history = s.history := (rfl)
@[simp] theorem putH5_hostSeen (v : Half) (s : State) : (putH5 v s).hostSeen = s.hostSeen := (rfl)

@[simp] theorem putH6_calT (v : Byte) (s : State) : (putH6 v s).calT = s.calT := (rfl)
@[simp] theorem putH6_calP (v : Byte) (s : State) : (putH6 v s).calP = s.calP := (rfl)
@[simp] theorem putH6_calH (v : Byte) (s : State) : (putH6 v s).calH = { s.calH with h6 := v } := (rfl)
@[simp] theorem putH6_rb (v : Byte) (s : State) : (putH6 v s).rb = s.rb := (rfl)
@[simp] theorem putH6_adcP (v : Byte) (s : State) : (putH6 v s).adcP = s.adcP := (rfl)
@[simp] theorem putH6_adcT (v : Byte) (s : State) : (putH6 v s).adcT = s.adcT := (rfl)
@[simp] theorem putH6_adcH (v : Byte) (s : State) : (putH6 v s).adcH = s.adcH := (rfl)
@[simp] theorem putH6_tfine (v : Byte) (s : State) : (putH6 v s).tfine = s.tfine := (rfl)
@[simp] theorem putH6_tfv (v : Byte) (s : State) : (putH6 v s).tfv = s.tfv := (rfl)
@[simp] theorem putH6_tOut (v : Byte) (s : State) : (putH6 v s).tOut = s.tOut := (rfl)
@[simp] theorem putH6_hOut (v : Byte) (s : State) : (putH6 v s).hOut = s.hOut := (rfl)
@[simp] theorem putH6_pOut (v : Byte) (s : State) : (putH6 v s).pOut = s.pOut := (rfl)
@[simp] theorem putH6_phase (v : Byte) (s : State) : (putH6 v s).phase = s.phase := (rfl)
@[simp] theorem putH6_lc (v : Byte) (s : State) : (putH6 v s).lc = s.lc := (rfl)
@[simp] theorem putH6_busy (v : Byte) (s : State) : (putH6 v s).busy = s.busy := (rfl)
@[simp] theorem putH6_rvalid (v : Byte) (s : State) : (putH6 v s).rvalid = s.rvalid := (rfl)
@[simp] theorem putH6_err (v : Byte) (s : State) : (putH6 v s).err = s.err := (rfl)
@[simp] theorem putH6_esticky (v : Byte) (s : State) : (putH6 v s).esticky = s.esticky := (rfl)
@[simp] theorem putH6_params (v : Byte) (s : State) : (putH6 v s).params = s.params := (rfl)
@[simp] theorem putH6_sensor (v : Byte) (s : State) : (putH6 v s).sensor = s.sensor := (rfl)
@[simp] theorem putH6_transport (v : Byte) (s : State) : (putH6 v s).transport = s.transport := (rfl)
@[simp] theorem putH6_script (v : Byte) (s : State) : (putH6 v s).script = s.script := (rfl)
@[simp] theorem putH6_draws (v : Byte) (s : State) : (putH6 v s).draws = s.draws := (rfl)
@[simp] theorem putH6_history (v : Byte) (s : State) : (putH6 v s).history = s.history := (rfl)
@[simp] theorem putH6_hostSeen (v : Byte) (s : State) : (putH6 v s).hostSeen = s.hostSeen := (rfl)

@[simp] theorem putBurst_calT (v : Vector Byte 8) (s : State) : (putBurst v s).calT = s.calT := (rfl)
@[simp] theorem putBurst_calP (v : Vector Byte 8) (s : State) : (putBurst v s).calP = s.calP := (rfl)
@[simp] theorem putBurst_calH (v : Vector Byte 8) (s : State) : (putBurst v s).calH = s.calH := (rfl)
@[simp] theorem putBurst_rb (v : Vector Byte 8) (s : State) : (putBurst v s).rb = v := (rfl)
@[simp] theorem putBurst_adcP (v : Vector Byte 8) (s : State) : (putBurst v s).adcP = s.adcP := (rfl)
@[simp] theorem putBurst_adcT (v : Vector Byte 8) (s : State) : (putBurst v s).adcT = s.adcT := (rfl)
@[simp] theorem putBurst_adcH (v : Vector Byte 8) (s : State) : (putBurst v s).adcH = s.adcH := (rfl)
@[simp] theorem putBurst_tfine (v : Vector Byte 8) (s : State) : (putBurst v s).tfine = s.tfine := (rfl)
@[simp] theorem putBurst_tfv (v : Vector Byte 8) (s : State) : (putBurst v s).tfv = s.tfv := (rfl)
@[simp] theorem putBurst_tOut (v : Vector Byte 8) (s : State) : (putBurst v s).tOut = s.tOut := (rfl)
@[simp] theorem putBurst_hOut (v : Vector Byte 8) (s : State) : (putBurst v s).hOut = s.hOut := (rfl)
@[simp] theorem putBurst_pOut (v : Vector Byte 8) (s : State) : (putBurst v s).pOut = s.pOut := (rfl)
@[simp] theorem putBurst_phase (v : Vector Byte 8) (s : State) : (putBurst v s).phase = s.phase := (rfl)
@[simp] theorem putBurst_lc (v : Vector Byte 8) (s : State) : (putBurst v s).lc = s.lc := (rfl)
@[simp] theorem putBurst_busy (v : Vector Byte 8) (s : State) : (putBurst v s).busy = s.busy := (rfl)
@[simp] theorem putBurst_rvalid (v : Vector Byte 8) (s : State) : (putBurst v s).rvalid = s.rvalid := (rfl)
@[simp] theorem putBurst_err (v : Vector Byte 8) (s : State) : (putBurst v s).err = s.err := (rfl)
@[simp] theorem putBurst_esticky (v : Vector Byte 8) (s : State) : (putBurst v s).esticky = s.esticky := (rfl)
@[simp] theorem putBurst_params (v : Vector Byte 8) (s : State) : (putBurst v s).params = s.params := (rfl)
@[simp] theorem putBurst_sensor (v : Vector Byte 8) (s : State) : (putBurst v s).sensor = s.sensor := (rfl)
@[simp] theorem putBurst_transport (v : Vector Byte 8) (s : State) : (putBurst v s).transport = s.transport := (rfl)
@[simp] theorem putBurst_script (v : Vector Byte 8) (s : State) : (putBurst v s).script = s.script := (rfl)
@[simp] theorem putBurst_draws (v : Vector Byte 8) (s : State) : (putBurst v s).draws = s.draws := (rfl)
@[simp] theorem putBurst_history (v : Vector Byte 8) (s : State) : (putBurst v s).history = s.history := (rfl)
@[simp] theorem putBurst_hostSeen (v : Vector Byte 8) (s : State) : (putBurst v s).hostSeen = s.hostSeen := (rfl)

@[simp] theorem putSample_calT (p t : Code20) (h : Half) (s : State) : (putSample p t h s).calT = s.calT := (rfl)
@[simp] theorem putSample_calP (p t : Code20) (h : Half) (s : State) : (putSample p t h s).calP = s.calP := (rfl)
@[simp] theorem putSample_calH (p t : Code20) (h : Half) (s : State) : (putSample p t h s).calH = s.calH := (rfl)
@[simp] theorem putSample_rb (p t : Code20) (h : Half) (s : State) : (putSample p t h s).rb = s.rb := (rfl)
@[simp] theorem putSample_adcP (p t : Code20) (h : Half) (s : State) : (putSample p t h s).adcP = p := (rfl)
@[simp] theorem putSample_adcT (p t : Code20) (h : Half) (s : State) : (putSample p t h s).adcT = t := (rfl)
@[simp] theorem putSample_adcH (p t : Code20) (h : Half) (s : State) : (putSample p t h s).adcH = h := (rfl)
@[simp] theorem putSample_tfine (p t : Code20) (h : Half) (s : State) : (putSample p t h s).tfine = s.tfine := (rfl)
@[simp] theorem putSample_tfv (p t : Code20) (h : Half) (s : State) : (putSample p t h s).tfv = s.tfv := (rfl)
@[simp] theorem putSample_tOut (p t : Code20) (h : Half) (s : State) : (putSample p t h s).tOut = s.tOut := (rfl)
@[simp] theorem putSample_hOut (p t : Code20) (h : Half) (s : State) : (putSample p t h s).hOut = s.hOut := (rfl)
@[simp] theorem putSample_pOut (p t : Code20) (h : Half) (s : State) : (putSample p t h s).pOut = s.pOut := (rfl)
@[simp] theorem putSample_phase (p t : Code20) (h : Half) (s : State) : (putSample p t h s).phase = s.phase := (rfl)
@[simp] theorem putSample_lc (p t : Code20) (h : Half) (s : State) : (putSample p t h s).lc = s.lc := (rfl)
@[simp] theorem putSample_busy (p t : Code20) (h : Half) (s : State) : (putSample p t h s).busy = s.busy := (rfl)
@[simp] theorem putSample_rvalid (p t : Code20) (h : Half) (s : State) : (putSample p t h s).rvalid = s.rvalid := (rfl)
@[simp] theorem putSample_err (p t : Code20) (h : Half) (s : State) : (putSample p t h s).err = s.err := (rfl)
@[simp] theorem putSample_esticky (p t : Code20) (h : Half) (s : State) : (putSample p t h s).esticky = s.esticky := (rfl)
@[simp] theorem putSample_params (p t : Code20) (h : Half) (s : State) : (putSample p t h s).params = s.params := (rfl)
@[simp] theorem putSample_sensor (p t : Code20) (h : Half) (s : State) : (putSample p t h s).sensor = s.sensor := (rfl)
@[simp] theorem putSample_transport (p t : Code20) (h : Half) (s : State) : (putSample p t h s).transport = s.transport := (rfl)
@[simp] theorem putSample_script (p t : Code20) (h : Half) (s : State) : (putSample p t h s).script = s.script := (rfl)
@[simp] theorem putSample_draws (p t : Code20) (h : Half) (s : State) : (putSample p t h s).draws = s.draws := (rfl)
@[simp] theorem putSample_history (p t : Code20) (h : Half) (s : State) : (putSample p t h s).history = s.history := (rfl)
@[simp] theorem putSample_hostSeen (p t : Code20) (h : Half) (s : State) : (putSample p t h s).hostSeen = s.hostSeen := (rfl)

@[simp] theorem putFine_calT (tf v : Word) (s : State) : (putFine tf v s).calT = s.calT := (rfl)
@[simp] theorem putFine_calP (tf v : Word) (s : State) : (putFine tf v s).calP = s.calP := (rfl)
@[simp] theorem putFine_calH (tf v : Word) (s : State) : (putFine tf v s).calH = s.calH := (rfl)
@[simp] theorem putFine_rb (tf v : Word) (s : State) : (putFine tf v s).rb = s.rb := (rfl)
@[simp] theorem putFine_adcP (tf v : Word) (s : State) : (putFine tf v s).adcP = s.adcP := (rfl)
@[simp] theorem putFine_adcT (tf v : Word) (s : State) : (putFine tf v s).adcT = s.adcT := (rfl)
@[simp] theorem putFine_adcH (tf v : Word) (s : State) : (putFine tf v s).adcH = s.adcH := (rfl)
@[simp] theorem putFine_tfine (tf v : Word) (s : State) : (putFine tf v s).tfine = tf := (rfl)
@[simp] theorem putFine_tfv (tf v : Word) (s : State) : (putFine tf v s).tfv = true := (rfl)
@[simp] theorem putFine_tOut (tf v : Word) (s : State) : (putFine tf v s).tOut = v := (rfl)
@[simp] theorem putFine_hOut (tf v : Word) (s : State) : (putFine tf v s).hOut = s.hOut := (rfl)
@[simp] theorem putFine_pOut (tf v : Word) (s : State) : (putFine tf v s).pOut = s.pOut := (rfl)
@[simp] theorem putFine_phase (tf v : Word) (s : State) : (putFine tf v s).phase = s.phase := (rfl)
@[simp] theorem putFine_lc (tf v : Word) (s : State) : (putFine tf v s).lc = s.lc := (rfl)
@[simp] theorem putFine_busy (tf v : Word) (s : State) : (putFine tf v s).busy = s.busy := (rfl)
@[simp] theorem putFine_rvalid (tf v : Word) (s : State) : (putFine tf v s).rvalid = s.rvalid := (rfl)
@[simp] theorem putFine_err (tf v : Word) (s : State) : (putFine tf v s).err = s.err := (rfl)
@[simp] theorem putFine_esticky (tf v : Word) (s : State) : (putFine tf v s).esticky = s.esticky := (rfl)
@[simp] theorem putFine_params (tf v : Word) (s : State) : (putFine tf v s).params = s.params := (rfl)
@[simp] theorem putFine_sensor (tf v : Word) (s : State) : (putFine tf v s).sensor = s.sensor := (rfl)
@[simp] theorem putFine_transport (tf v : Word) (s : State) : (putFine tf v s).transport = s.transport := (rfl)
@[simp] theorem putFine_script (tf v : Word) (s : State) : (putFine tf v s).script = s.script := (rfl)
@[simp] theorem putFine_draws (tf v : Word) (s : State) : (putFine tf v s).draws = s.draws := (rfl)
@[simp] theorem putFine_history (tf v : Word) (s : State) : (putFine tf v s).history = s.history := (rfl)
@[simp] theorem putFine_hostSeen (tf v : Word) (s : State) : (putFine tf v s).hostSeen = s.hostSeen := (rfl)

@[simp] theorem putHOut_calT (v : Word) (s : State) : (putHOut v s).calT = s.calT := (rfl)
@[simp] theorem putHOut_calP (v : Word) (s : State) : (putHOut v s).calP = s.calP := (rfl)
@[simp] theorem putHOut_calH (v : Word) (s : State) : (putHOut v s).calH = s.calH := (rfl)
@[simp] theorem putHOut_rb (v : Word) (s : State) : (putHOut v s).rb = s.rb := (rfl)
@[simp] theorem putHOut_adcP (v : Word) (s : State) : (putHOut v s).adcP = s.adcP := (rfl)
@[simp] theorem putHOut_adcT (v : Word) (s : State) : (putHOut v s).adcT = s.adcT := (rfl)
@[simp] theorem putHOut_adcH (v : Word) (s : State) : (putHOut v s).adcH = s.adcH := (rfl)
@[simp] theorem putHOut_tfine (v : Word) (s : State) : (putHOut v s).tfine = s.tfine := (rfl)
@[simp] theorem putHOut_tfv (v : Word) (s : State) : (putHOut v s).tfv = s.tfv := (rfl)
@[simp] theorem putHOut_tOut (v : Word) (s : State) : (putHOut v s).tOut = s.tOut := (rfl)
@[simp] theorem putHOut_hOut (v : Word) (s : State) : (putHOut v s).hOut = v := (rfl)
@[simp] theorem putHOut_pOut (v : Word) (s : State) : (putHOut v s).pOut = s.pOut := (rfl)
@[simp] theorem putHOut_phase (v : Word) (s : State) : (putHOut v s).phase = s.phase := (rfl)
@[simp] theorem putHOut_lc (v : Word) (s : State) : (putHOut v s).lc = s.lc := (rfl)
@[simp] theorem putHOut_busy (v : Word) (s : State) : (putHOut v s).busy = s.busy := (rfl)
@[simp] theorem putHOut_rvalid (v : Word) (s : State) : (putHOut v s).rvalid = s.rvalid := (rfl)
@[simp] theorem putHOut_err (v : Word) (s : State) : (putHOut v s).err = s.err := (rfl)
@[simp] theorem putHOut_esticky (v : Word) (s : State) : (putHOut v s).esticky = s.esticky := (rfl)
@[simp] theorem putHOut_params (v : Word) (s : State) : (putHOut v s).params = s.params := (rfl)
@[simp] theorem putHOut_sensor (v : Word) (s : State) : (putHOut v s).sensor = s.sensor := (rfl)
@[simp] theorem putHOut_transport (v : Word) (s : State) : (putHOut v s).transport = s.transport := (rfl)
@[simp] theorem putHOut_script (v : Word) (s : State) : (putHOut v s).script = s.script := (rfl)
@[simp] theorem putHOut_draws (v : Word) (s : State) : (putHOut v s).draws = s.draws := (rfl)
@[simp] theorem putHOut_history (v : Word) (s : State) : (putHOut v s).history = s.history := (rfl)
@[simp] theorem putHOut_hostSeen (v : Word) (s : State) : (putHOut v s).hostSeen = s.hostSeen := (rfl)

@[simp] theorem putPOut_calT (v : Word) (s : State) : (putPOut v s).calT = s.calT := (rfl)
@[simp] theorem putPOut_calP (v : Word) (s : State) : (putPOut v s).calP = s.calP := (rfl)
@[simp] theorem putPOut_calH (v : Word) (s : State) : (putPOut v s).calH = s.calH := (rfl)
@[simp] theorem putPOut_rb (v : Word) (s : State) : (putPOut v s).rb = s.rb := (rfl)
@[simp] theorem putPOut_adcP (v : Word) (s : State) : (putPOut v s).adcP = s.adcP := (rfl)
@[simp] theorem putPOut_adcT (v : Word) (s : State) : (putPOut v s).adcT = s.adcT := (rfl)
@[simp] theorem putPOut_adcH (v : Word) (s : State) : (putPOut v s).adcH = s.adcH := (rfl)
@[simp] theorem putPOut_tfine (v : Word) (s : State) : (putPOut v s).tfine = s.tfine := (rfl)
@[simp] theorem putPOut_tfv (v : Word) (s : State) : (putPOut v s).tfv = s.tfv := (rfl)
@[simp] theorem putPOut_tOut (v : Word) (s : State) : (putPOut v s).tOut = s.tOut := (rfl)
@[simp] theorem putPOut_hOut (v : Word) (s : State) : (putPOut v s).hOut = s.hOut := (rfl)
@[simp] theorem putPOut_pOut (v : Word) (s : State) : (putPOut v s).pOut = v := (rfl)
@[simp] theorem putPOut_phase (v : Word) (s : State) : (putPOut v s).phase = s.phase := (rfl)
@[simp] theorem putPOut_lc (v : Word) (s : State) : (putPOut v s).lc = s.lc := (rfl)
@[simp] theorem putPOut_busy (v : Word) (s : State) : (putPOut v s).busy = s.busy := (rfl)
@[simp] theorem putPOut_rvalid (v : Word) (s : State) : (putPOut v s).rvalid = s.rvalid := (rfl)
@[simp] theorem putPOut_err (v : Word) (s : State) : (putPOut v s).err = s.err := (rfl)
@[simp] theorem putPOut_esticky (v : Word) (s : State) : (putPOut v s).esticky = s.esticky := (rfl)
@[simp] theorem putPOut_params (v : Word) (s : State) : (putPOut v s).params = s.params := (rfl)
@[simp] theorem putPOut_sensor (v : Word) (s : State) : (putPOut v s).sensor = s.sensor := (rfl)
@[simp] theorem putPOut_transport (v : Word) (s : State) : (putPOut v s).transport = s.transport := (rfl)
@[simp] theorem putPOut_script (v : Word) (s : State) : (putPOut v s).script = s.script := (rfl)
@[simp] theorem putPOut_draws (v : Word) (s : State) : (putPOut v s).draws = s.draws := (rfl)
@[simp] theorem putPOut_history (v : Word) (s : State) : (putPOut v s).history = s.history := (rfl)
@[simp] theorem putPOut_hostSeen (v : Word) (s : State) : (putPOut v s).hostSeen = s.hostSeen := (rfl)

@[simp] theorem publish_calT (s : State) : (publish s).calT = s.calT := (rfl)
@[simp] theorem publish_calP (s : State) : (publish s).calP = s.calP := (rfl)
@[simp] theorem publish_calH (s : State) : (publish s).calH = s.calH := (rfl)
@[simp] theorem publish_rb (s : State) : (publish s).rb = s.rb := (rfl)
@[simp] theorem publish_adcP (s : State) : (publish s).adcP = s.adcP := (rfl)
@[simp] theorem publish_adcT (s : State) : (publish s).adcT = s.adcT := (rfl)
@[simp] theorem publish_adcH (s : State) : (publish s).adcH = s.adcH := (rfl)
@[simp] theorem publish_tfine (s : State) : (publish s).tfine = s.tfine := (rfl)
@[simp] theorem publish_tfv (s : State) : (publish s).tfv = false := (rfl)
@[simp] theorem publish_tOut (s : State) : (publish s).tOut = s.tOut := (rfl)
@[simp] theorem publish_hOut (s : State) : (publish s).hOut = s.hOut := (rfl)
@[simp] theorem publish_pOut (s : State) : (publish s).pOut = s.pOut := (rfl)
@[simp] theorem publish_phase (s : State) : (publish s).phase = s.phase := (rfl)
@[simp] theorem publish_lc (s : State) : (publish s).lc = s.lc := (rfl)
@[simp] theorem publish_busy (s : State) : (publish s).busy = s.busy := (rfl)
@[simp] theorem publish_rvalid (s : State) : (publish s).rvalid = true := (rfl)
@[simp] theorem publish_err (s : State) : (publish s).err = s.err := (rfl)
@[simp] theorem publish_esticky (s : State) : (publish s).esticky = s.esticky := (rfl)
@[simp] theorem publish_params (s : State) : (publish s).params = s.params := (rfl)
@[simp] theorem publish_sensor (s : State) : (publish s).sensor = s.sensor := (rfl)
@[simp] theorem publish_transport (s : State) : (publish s).transport = s.transport := (rfl)
@[simp] theorem publish_script (s : State) : (publish s).script = s.script := (rfl)
@[simp] theorem publish_draws (s : State) : (publish s).draws = s.draws := (rfl)
@[simp] theorem publish_history (s : State) : (publish s).history = s.history := (rfl)
@[simp] theorem publish_hostSeen (s : State) : (publish s).hostSeen = s.hostSeen := (rfl)

@[simp] theorem becomeReady_calT (s : State) : (becomeReady s).calT = s.calT := (rfl)
@[simp] theorem becomeReady_calP (s : State) : (becomeReady s).calP = s.calP := (rfl)
@[simp] theorem becomeReady_calH (s : State) : (becomeReady s).calH = s.calH := (rfl)
@[simp] theorem becomeReady_rb (s : State) : (becomeReady s).rb = s.rb := (rfl)
@[simp] theorem becomeReady_adcP (s : State) : (becomeReady s).adcP = s.adcP := (rfl)
@[simp] theorem becomeReady_adcT (s : State) : (becomeReady s).adcT = s.adcT := (rfl)
@[simp] theorem becomeReady_adcH (s : State) : (becomeReady s).adcH = s.adcH := (rfl)
@[simp] theorem becomeReady_tfine (s : State) : (becomeReady s).tfine = s.tfine := (rfl)
@[simp] theorem becomeReady_tfv (s : State) : (becomeReady s).tfv = s.tfv := (rfl)
@[simp] theorem becomeReady_tOut (s : State) : (becomeReady s).tOut = s.tOut := (rfl)
@[simp] theorem becomeReady_hOut (s : State) : (becomeReady s).hOut = s.hOut := (rfl)
@[simp] theorem becomeReady_pOut (s : State) : (becomeReady s).pOut = s.pOut := (rfl)
@[simp] theorem becomeReady_phase (s : State) : (becomeReady s).phase = s.phase := (rfl)
@[simp] theorem becomeReady_lc (s : State) : (becomeReady s).lc = .ready := (rfl)
@[simp] theorem becomeReady_busy (s : State) : (becomeReady s).busy = s.busy := (rfl)
@[simp] theorem becomeReady_rvalid (s : State) : (becomeReady s).rvalid = s.rvalid := (rfl)
@[simp] theorem becomeReady_err (s : State) : (becomeReady s).err = s.err := (rfl)
@[simp] theorem becomeReady_esticky (s : State) : (becomeReady s).esticky = s.esticky := (rfl)
@[simp] theorem becomeReady_params (s : State) : (becomeReady s).params = s.params := (rfl)
@[simp] theorem becomeReady_sensor (s : State) : (becomeReady s).sensor = s.sensor := (rfl)
@[simp] theorem becomeReady_transport (s : State) : (becomeReady s).transport = s.transport := (rfl)
@[simp] theorem becomeReady_script (s : State) : (becomeReady s).script = s.script := (rfl)
@[simp] theorem becomeReady_draws (s : State) : (becomeReady s).draws = s.draws := (rfl)
@[simp] theorem becomeReady_history (s : State) : (becomeReady s).history = s.history := (rfl)
@[simp] theorem becomeReady_hostSeen (s : State) : (becomeReady s).hostSeen = s.hostSeen := (rfl)

@[simp] theorem acceptInit_calT (s : State) : (acceptInit s).calT = s.calT := (rfl)
@[simp] theorem acceptInit_calP (s : State) : (acceptInit s).calP = s.calP := (rfl)
@[simp] theorem acceptInit_calH (s : State) : (acceptInit s).calH = s.calH := (rfl)
@[simp] theorem acceptInit_rb (s : State) : (acceptInit s).rb = s.rb := (rfl)
@[simp] theorem acceptInit_adcP (s : State) : (acceptInit s).adcP = s.adcP := (rfl)
@[simp] theorem acceptInit_adcT (s : State) : (acceptInit s).adcT = s.adcT := (rfl)
@[simp] theorem acceptInit_adcH (s : State) : (acceptInit s).adcH = s.adcH := (rfl)
@[simp] theorem acceptInit_tfine (s : State) : (acceptInit s).tfine = s.tfine := (rfl)
@[simp] theorem acceptInit_tfv (s : State) : (acceptInit s).tfv = s.tfv := (rfl)
@[simp] theorem acceptInit_tOut (s : State) : (acceptInit s).tOut = s.tOut := (rfl)
@[simp] theorem acceptInit_hOut (s : State) : (acceptInit s).hOut = s.hOut := (rfl)
@[simp] theorem acceptInit_pOut (s : State) : (acceptInit s).pOut = s.pOut := (rfl)
@[simp] theorem acceptInit_phase (s : State) : (acceptInit s).phase = s.phase := (rfl)
@[simp] theorem acceptInit_lc (s : State) : (acceptInit s).lc = s.lc := (rfl)
@[simp] theorem acceptInit_busy (s : State) : (acceptInit s).busy = true := (rfl)
@[simp] theorem acceptInit_rvalid (s : State) : (acceptInit s).rvalid = s.rvalid := (rfl)
@[simp] theorem acceptInit_err (s : State) : (acceptInit s).err = s.err := (rfl)
@[simp] theorem acceptInit_esticky (s : State) : (acceptInit s).esticky = s.esticky := (rfl)
@[simp] theorem acceptInit_params (s : State) : (acceptInit s).params = s.params := (rfl)
@[simp] theorem acceptInit_sensor (s : State) : (acceptInit s).sensor = s.sensor := (rfl)
@[simp] theorem acceptInit_transport (s : State) : (acceptInit s).transport = s.transport := (rfl)
@[simp] theorem acceptInit_script (s : State) : (acceptInit s).script = s.script := (rfl)
@[simp] theorem acceptInit_draws (s : State) : (acceptInit s).draws = s.draws := (rfl)
@[simp] theorem acceptInit_history (s : State) : (acceptInit s).history = s.history := (rfl)
@[simp] theorem acceptInit_hostSeen (s : State) : (acceptInit s).hostSeen = s.hostSeen := (rfl)

@[simp] theorem acceptGet_calT (s : State) : (acceptGet s).calT = s.calT := (rfl)
@[simp] theorem acceptGet_calP (s : State) : (acceptGet s).calP = s.calP := (rfl)
@[simp] theorem acceptGet_calH (s : State) : (acceptGet s).calH = s.calH := (rfl)
@[simp] theorem acceptGet_rb (s : State) : (acceptGet s).rb = s.rb := (rfl)
@[simp] theorem acceptGet_adcP (s : State) : (acceptGet s).adcP = s.adcP := (rfl)
@[simp] theorem acceptGet_adcT (s : State) : (acceptGet s).adcT = s.adcT := (rfl)
@[simp] theorem acceptGet_adcH (s : State) : (acceptGet s).adcH = s.adcH := (rfl)
@[simp] theorem acceptGet_tfine (s : State) : (acceptGet s).tfine = s.tfine := (rfl)
@[simp] theorem acceptGet_tfv (s : State) : (acceptGet s).tfv = false := (rfl)
@[simp] theorem acceptGet_tOut (s : State) : (acceptGet s).tOut = s.tOut := (rfl)
@[simp] theorem acceptGet_hOut (s : State) : (acceptGet s).hOut = s.hOut := (rfl)
@[simp] theorem acceptGet_pOut (s : State) : (acceptGet s).pOut = s.pOut := (rfl)
@[simp] theorem acceptGet_phase (s : State) : (acceptGet s).phase = s.phase := (rfl)
@[simp] theorem acceptGet_lc (s : State) : (acceptGet s).lc = s.lc := (rfl)
@[simp] theorem acceptGet_busy (s : State) : (acceptGet s).busy = true := (rfl)
@[simp] theorem acceptGet_rvalid (s : State) : (acceptGet s).rvalid = false := (rfl)
@[simp] theorem acceptGet_err (s : State) : (acceptGet s).err = s.err := (rfl)
@[simp] theorem acceptGet_esticky (s : State) : (acceptGet s).esticky = s.esticky := (rfl)
@[simp] theorem acceptGet_params (s : State) : (acceptGet s).params = s.params := (rfl)
@[simp] theorem acceptGet_sensor (s : State) : (acceptGet s).sensor = s.sensor := (rfl)
@[simp] theorem acceptGet_transport (s : State) : (acceptGet s).transport = s.transport := (rfl)
@[simp] theorem acceptGet_script (s : State) : (acceptGet s).script = s.script := (rfl)
@[simp] theorem acceptGet_draws (s : State) : (acceptGet s).draws = s.draws := (rfl)
@[simp] theorem acceptGet_history (s : State) : (acceptGet s).history = s.history := (rfl)
@[simp] theorem acceptGet_hostSeen (s : State) : (acceptGet s).hostSeen = s.hostSeen := (rfl)

/-- Two states with equal fields are equal. -/
theorem state_ext {s t : State}
    (calT : s.calT = t.calT) (calP : s.calP = t.calP) (calH : s.calH = t.calH) (rb : s.rb = t.rb)
    (adcP : s.adcP = t.adcP) (adcT : s.adcT = t.adcT) (adcH : s.adcH = t.adcH) (tfine : s.tfine = t.tfine)
    (tfv : s.tfv = t.tfv) (tOut : s.tOut = t.tOut) (hOut : s.hOut = t.hOut) (pOut : s.pOut = t.pOut)
    (phase : s.phase = t.phase) (lc : s.lc = t.lc) (busy : s.busy = t.busy) (rvalid : s.rvalid = t.rvalid)
    (err : s.err = t.err) (esticky : s.esticky = t.esticky) (params : s.params = t.params)
    (sensor : s.sensor = t.sensor) (transport : s.transport = t.transport) (script : s.script = t.script)
    (draws : s.draws = t.draws) (history : s.history = t.history) (hostSeen : s.hostSeen = t.hostSeen) :
    s = t := by
  cases s
  cases t
  simp only at *
  subst_vars
  rfl

end Sys2Proof.Machine
end

