-- ==== Sys2Proof/Laws/Ops.lean ====
section
/-! SUPPORT. For each shared operation, one lemma that says once everything it can do. -/

namespace Sys2Proof.Machine

theorem nextAnswer_cases (s : State) : nextAnswer s = .ok ∨ nextAnswer s = .fail := by
  cases nextAnswer s <;> simp

/-- `MemRead` has two outcomes (R65, R78). -/
theorem memRead_cases (a : Byte) (n : Nat) (s : State) :
    (nextAnswer s = .ok ∧ memRead a n s = (some (drawBytes s.sensor s.draws a.toNat n), readOk a n s)) ∨
      (nextAnswer s = .fail ∧ memRead a n s = (none, transacted (.read Config.devAddr a n none) s)) := by
  rcases nextAnswer_cases s with h | h <;> simp [memRead, h]

/-- `MemWrite` has two outcomes (R66, R78). -/
theorem memWrite_cases (a v : Byte) (s : State) :
    (nextAnswer s = .ok ∧ memWrite a v s = (true, writeOk a v s)) ∨
      (nextAnswer s = .fail ∧ memWrite a v s = (false, transacted (.write Config.devAddr a v false) s)) := by
  rcases nextAnswer_cases s with h | h <;> simp [memWrite, h]

/-- A micro-operation that reads either goes on with the bytes or raises BusError (R154). -/
theorem readThen_cases (a : Byte) (n : Nat) (k : List Byte → State → Outcome) (s : State) :
    (nextAnswer s = .ok ∧ readThen a n k s = k (drawBytes s.sensor s.draws a.toNat n) (readOk a n s)) ∨
      (nextAnswer s = .fail ∧
        readThen a n k s = .next (raise .busError (transacted (.read Config.devAddr a n none) s))) := by
  rcases memRead_cases a n s with ⟨h, e⟩ | ⟨h, e⟩ <;> simp [readThen, h, e]

/-- A micro-operation that writes either goes on or raises BusError (R154). -/
theorem writeThen_cases (a v : Byte) (k : State → Outcome) (s : State) :
    (nextAnswer s = .ok ∧ writeThen a v k s = k (writeOk a v s)) ∨
      (nextAnswer s = .fail ∧
        writeThen a v k s = .next (raise .busError (transacted (.write Config.devAddr a v false) s))) := by
  rcases memWrite_cases a v s with ⟨h, e⟩ | ⟨h, e⟩ <;> simp [writeThen, h, e]

/-- A two-byte load (R69, R97). -/
theorem loadWord_cases (a : Byte) (c : PhaseCode) (put : Half → State → State) (s : State) :
    (nextAnswer s = .ok ∧
        loadWord a c put s = .next (goPhase c (put (le16 (drawByte s.sensor s.draws a.toNat)
          (drawByte s.sensor (s.draws + 1) (a.toNat + 1))) (readOk a 2 s)))) ∨
      (nextAnswer s = .fail ∧
        loadWord a c put s = .next (raise .busError (transacted (.read Config.devAddr a 2 none) s))) := by
  rcases readThen_cases a 2 (fun b s1 => .next (goPhase c (put (le16 (byteAt b 0) (byteAt b 1)) s1))) s with ⟨h, e⟩ | ⟨h, e⟩
  · exact .inl ⟨h, e⟩
  · exact .inr ⟨h, e⟩

/-- A one-byte load (R69, R98). -/
theorem loadByte_cases (a : Byte) (c : PhaseCode) (put : Byte → State → State) (s : State) :
    (nextAnswer s = .ok ∧
        loadByte a c put s = .next (goPhase c (put (drawByte s.sensor s.draws a.toNat) (readOk a 1 s)))) ∨
      (nextAnswer s = .fail ∧
        loadByte a c put s = .next (raise .busError (transacted (.read Config.devAddr a 1 none) s))) := by
  rcases readThen_cases a 1 (fun b s1 => .next (goPhase c (put (byteAt b 0) s1))) s with ⟨h, e⟩ | ⟨h, e⟩
  · exact .inl ⟨h, e⟩
  · exact .inr ⟨h, e⟩

/-- A load from two one-byte reads (R188, R189, R273): both succeed, or the first that fails ends it. -/
theorem loadTwoBytes_cases (a b : Byte) (c : PhaseCode) (put : Byte → Byte → State → State) (s : State) :
    (nextAnswer s = .ok ∧ nextAnswer (readOk a 1 s) = .ok ∧
        loadTwoBytes a b c put s = .next (goPhase c (put (drawByte s.sensor s.draws a.toNat)
          (drawByte s.sensor (s.draws + 1) b.toNat) (readOk b 1 (readOk a 1 s))))) ∨
      (nextAnswer s = .ok ∧ nextAnswer (readOk a 1 s) = .fail ∧
        loadTwoBytes a b c put s =
          .next (raise .busError (transacted (.read Config.devAddr b 1 none) (readOk a 1 s)))) ∨
      (nextAnswer s = .fail ∧
        loadTwoBytes a b c put s = .next (raise .busError (transacted (.read Config.devAddr a 1 none) s))) := by
  rcases nextAnswer_cases s with h | h
  · rcases nextAnswer_cases (readOk a 1 s) with h2 | h2
    · exact .inl ⟨h, h2, by simp [loadTwoBytes, readThen, memRead, h, h2, byteAt, drawBytes]⟩
    · exact .inr (.inl ⟨h, h2, by simp [loadTwoBytes, readThen, memRead, h, h2]⟩)
  · exact .inr (.inr ⟨h, by simp [loadTwoBytes, readThen, memRead, h]⟩)

/-- A configuration write of INIT (R170 to R172). -/
theorem writeConfig_cases (r : CfgReg) (c : PhaseCode) (s : State) :
    (nextAnswer s = .ok ∧
        writeConfig r c s = .next (goPhase c (writeOk (cfgAddr r) (cfgByte s.params r) s))) ∨
      (nextAnswer s = .fail ∧
        writeConfig r c s =
          .next (raise .busError (transacted (.write Config.devAddr (cfgAddr r) (cfgByte s.params r) false) s))) :=
  writeThen_cases (cfgAddr r) (cfgByte s.params r) (fun s1 => .next (goPhase c s1)) s

/-- INIT at dispatch (R150). -/
theorem execInit_cases (s : State) (h : s.busy = false) :
    (s.lc = .uninit ∧ execInit s = .next (goPhase 0x01#6 (acceptInit s))) ∨
      (s.lc = .ready ∧ execInit s = .next (raise .sequenceError s)) := by
  cases hl : s.lc <;> simp [execInit, h, hl]

/-- GET at dispatch (R150). -/
theorem execGet_cases (s : State) (h : s.busy = false) :
    (s.lc = .ready ∧
        execGet s = .next (goPhase 0x20#6 (acceptGet s))) ∨
      (s.lc = .uninit ∧ execGet s = .next (raise .sequenceError s)) := by
  cases hl : s.lc <;> simp [execGet, h, hl]

/-- The command port decodes two words; every other is reserved (R91, R92). -/
theorem decodeCommand_cases (w : Byte) :
    (w = 0x01#8 ∧ decodeCommand w = .ok .init) ∨ (w = 0x02#8 ∧ decodeCommand w = .ok .get) ∨
      (w ≠ 0x01#8 ∧ w ≠ 0x02#8 ∧ decodeCommand w = .error (.reservedCommand w)) := by
  by_cases h1 : w = 0x01#8
  · exact .inl ⟨h1, by subst h1; rfl⟩
  · by_cases h2 : w = 0x02#8
    · exact .inr (.inl ⟨h2, by subst h2; rfl⟩)
    · refine .inr (.inr ⟨h1, h2, ?_⟩)
      have h1' : w.toNat ≠ 1 := fun h => h1 (BitVec.eq_of_toNat_eq h)
      have h2' : w.toNat ≠ 2 := fun h => h2 (BitVec.eq_of_toNat_eq h)
      unfold decodeCommand
      split <;> first | rfl | (exfalso; omega)

/-- Dispatch of a command word while `BUSY = 0` (R150): accepted, or one of the two dispatch errors. -/
theorem presentCommand_cases (w : Byte) (s : State) (h : s.busy = false) :
    (w = 0x01#8 ∧ s.lc = .uninit ∧ presentCommand w s = .next (goPhase 0x01#6 (acceptInit s))) ∨
      (w = 0x02#8 ∧ s.lc = .ready ∧
        presentCommand w s = .next (goPhase 0x20#6 (acceptGet s))) ∨
      (((w = 0x01#8 ∧ s.lc = .ready) ∨ (w = 0x02#8 ∧ s.lc = .uninit)) ∧
        presentCommand w s = .next (raise .sequenceError s)) ∨
      (w ≠ 0x01#8 ∧ w ≠ 0x02#8 ∧ presentCommand w s = .next (raise .illegalCommand s)) := by
  rcases decodeCommand_cases w with ⟨hw, d⟩ | ⟨hw, d⟩ | ⟨h1, h2, d⟩
  · rcases execInit_cases s h with ⟨hl, e⟩ | ⟨hl, e⟩
    · exact .inl ⟨hw, hl, by simp [presentCommand, d, exec, e]⟩
    · exact .inr (.inr (.inl ⟨.inl ⟨hw, hl⟩, by simp [presentCommand, d, exec, e]⟩))
  · rcases execGet_cases s h with ⟨hl, e⟩ | ⟨hl, e⟩
    · exact .inr (.inl ⟨hw, hl, by simp [presentCommand, d, exec, e]⟩)
    · exact .inr (.inr (.inl ⟨.inr ⟨hw, hl⟩, by simp [presentCommand, d, exec, e]⟩))
  · exact .inr (.inr (.inr ⟨h1, h2, by simp [presentCommand, d]⟩))

/-- What one step of the machine can be: CORE's turn, dispatch, or an act of the host, the sensor or the transport. -/
theorem step_cases (s : State) :
    (coreMoves s = true ∧ step s = coreTurn (atTurn s)) ∨
      (∃ w rest, s.script = .command w :: rest ∧ s.busy = false ∧ step s = presentCommand w (dropEvent s)) ∨
      (∃ rest, s.script = .awaitIdle :: rest ∧ s.busy = false ∧ step s = .next (dropEvent s)) ∨
      (∃ rest, s.script = .reset :: rest ∧ step s = .next (assertReset (dropEvent s))) ∨
      (∃ rest, s.script = .readStatus :: rest ∧ step s = .next (hostReadsStatus (dropEvent s))) ∨
      (∃ r rest, s.script = .readResult r :: rest ∧ step s = .next (hostReadsResult r (dropEvent s))) ∨
      (∃ a v rest, s.script = .sensor a v :: rest ∧ step s = .next (sensorActs a v (dropEvent s))) ∨
      (∃ k rest, s.script = .failNth k :: rest ∧ step s = .next (transportWillFail k (dropEvent s))) ∨
      (s.script = [.hang] ∧ step s = .next s) ∨
      (∃ e rest, s.script = .hang :: e :: rest ∧ step s = .next (dropEvent s)) := by
  rcases hs : s.script with _ | ⟨ev, rest⟩
  · simp [coreMoves, step, sequencerStep, atTurn, hs]
  · cases ev with
    | core => simp [coreMoves, step, sequencerStep, atTurn, hs]
    | command w => cases hb : s.busy <;> simp [coreMoves, step, sequencerStep, atTurn, hs, hb]
    | awaitIdle => cases hb : s.busy <;> simp [coreMoves, step, sequencerStep, atTurn, hs, hb]
    | hang => cases rest <;> simp [step, sequencerStep, hs]
    | _ => simp [step, sequencerStep, hs]

/-- CORE's turn (R154). -/
theorem coreTurn_cases (s : State) :
    (s.busy = false ∧ coreTurn s = .next s) ∨
      (s.busy = true ∧ ∃ i, decodePhase s.phase = .ok i ∧ coreTurn s = exec i s) ∨
      (s.busy = true ∧ (∃ e, decodePhase s.phase = .error e) ∧ coreTurn s = .refused (.unusedPhase s.phase)) := by
  cases hb : s.busy
  · exact .inl ⟨rfl, by simp [coreTurn, hb, exec, execIdle]⟩
  · cases hd : decodePhase s.phase with
    | ok i => exact .inr (.inl ⟨rfl, i, rfl, by simp [coreTurn, hb, hd]⟩)
    | error e => exact .inr (.inr ⟨rfl, ⟨e, rfl⟩, by simp [coreTurn, hb, hd]⟩)

end Sys2Proof.Machine
end

