-- ==== Sys2Proof/Laws/Exec.lean ====
section
/-! SUPPORT. What one instruction, and one step, can do: every next state by name, with the condition under which it
comes. A proof about all instructions takes `cases exec_ran h` and never unfolds a meaning; one about all steps takes
`step_ran`. -/

namespace Sys2Proof.Machine

/-- `Ran s i t`: instruction i has taken s to t. One constructor per way an instruction can end. -/
inductive Ran (s : State) : Instr → State → Prop where
  | idle : Ran s .idle s
  | init (hb : s.busy = false) (hl : s.lc = .uninit) : Ran s .init (goPhase 0x01#6 (acceptInit s))
  | initRefused (hb : s.busy = false) (hl : s.lc = .ready) : Ran s .init (raise .sequenceError s)
  | get (hb : s.busy = false) (hl : s.lc = .ready) : Ran s .get (goPhase 0x20#6 (acceptGet s))
  | getRefused (hb : s.busy = false) (hl : s.lc = .uninit) : Ran s .get (raise .sequenceError s)
  | wrcfg0 (h : nextAnswer s = .ok) :
    Ran s .wrcfg0 (goPhase 0x02#6
      (writeOk (cfgAddr (cfgFirst s.params.cfgOrder)) (cfgByte s.params (cfgFirst s.params.cfgOrder)) s))
  | wrcfg0Failed (h : nextAnswer s = .fail) :
    Ran s .wrcfg0 (raise .busError
      (transacted (.write Config.devAddr (cfgAddr (cfgFirst s.params.cfgOrder))
        (cfgByte s.params (cfgFirst s.params.cfgOrder)) false) s))
  | wrcfg1 (h : nextAnswer s = .ok) :
    Ran s .wrcfg1 (goPhase 0x03#6
      (writeOk (cfgAddr (cfgSecond s.params.cfgOrder)) (cfgByte s.params (cfgSecond s.params.cfgOrder)) s))
  | wrcfg1Failed (h : nextAnswer s = .fail) :
    Ran s .wrcfg1 (raise .busError
      (transacted (.write Config.devAddr (cfgAddr (cfgSecond s.params.cfgOrder))
        (cfgByte s.params (cfgSecond s.params.cfgOrder)) false) s))
  | wrcfg2 (h : nextAnswer s = .ok) :
    Ran s .wrcfg2 (goPhase 0x04#6
      (writeOk (cfgAddr (cfgThird s.params.cfgOrder)) (cfgByte s.params (cfgThird s.params.cfgOrder)) s))
  | wrcfg2Failed (h : nextAnswer s = .fail) :
    Ran s .wrcfg2 (raise .busError
      (transacted (.write Config.devAddr (cfgAddr (cfgThird s.params.cfgOrder))
        (cfgByte s.params (cfgThird s.params.cfgOrder)) false) s))
  | ldt1 (h : nextAnswer s = .ok) :
    Ran s .ldt1 (goPhase 0x05#6 (putT1 (le16 (drawByte s.sensor s.draws 0x88)
      (drawByte s.sensor (s.draws + 1) (0x88 + 1))) (readOk 0x88#8 2 s)))
  | ldt1Failed (h : nextAnswer s = .fail) :
    Ran s .ldt1 (raise .busError (transacted (.read Config.devAddr 0x88#8 2 none) s))
  | ldt2 (h : nextAnswer s = .ok) :
    Ran s .ldt2 (goPhase 0x06#6 (putT2 (le16 (drawByte s.sensor s.draws 0x8A)
      (drawByte s.sensor (s.draws + 1) (0x8A + 1))) (readOk 0x8A#8 2 s)))
  | ldt2Failed (h : nextAnswer s = .fail) :
    Ran s .ldt2 (raise .busError (transacted (.read Config.devAddr 0x8A#8 2 none) s))
  | ldt3 (h : nextAnswer s = .ok) :
    Ran s .ldt3 (goPhase 0x07#6 (putT3 (le16 (drawByte s.sensor s.draws 0x8C)
      (drawByte s.sensor (s.draws + 1) (0x8C + 1))) (readOk 0x8C#8 2 s)))
  | ldt3Failed (h : nextAnswer s = .fail) :
    Ran s .ldt3 (raise .busError (transacted (.read Config.devAddr 0x8C#8 2 none) s))
  | ldp1 (h : nextAnswer s = .ok) :
    Ran s .ldp1 (goPhase 0x08#6 (putP1 (le16 (drawByte s.sensor s.draws 0x8E)
      (drawByte s.sensor (s.draws + 1) (0x8E + 1))) (readOk 0x8E#8 2 s)))
  | ldp1Failed (h : nextAnswer s = .fail) :
    Ran s .ldp1 (raise .busError (transacted (.read Config.devAddr 0x8E#8 2 none) s))
  | ldp2 (h : nextAnswer s = .ok) :
    Ran s .ldp2 (goPhase 0x09#6 (putP2 (le16 (drawByte s.sensor s.draws 0x90)
      (drawByte s.sensor (s.draws + 1) (0x90 + 1))) (readOk 0x90#8 2 s)))
  | ldp2Failed (h : nextAnswer s = .fail) :
    Ran s .ldp2 (raise .busError (transacted (.read Config.devAddr 0x90#8 2 none) s))
  | ldp3 (h : nextAnswer s = .ok) :
    Ran s .ldp3 (goPhase 0x0A#6 (putP3 (le16 (drawByte s.sensor s.draws 0x92)
      (drawByte s.sensor (s.draws + 1) (0x92 + 1))) (readOk 0x92#8 2 s)))
  | ldp3Failed (h : nextAnswer s = .fail) :
    Ran s .ldp3 (raise .busError (transacted (.read Config.devAddr 0x92#8 2 none) s))
  | ldp4 (h : nextAnswer s = .ok) :
    Ran s .ldp4 (goPhase 0x0B#6 (putP4 (le16 (drawByte s.sensor s.draws 0x94)
      (drawByte s.sensor (s.draws + 1) (0x94 + 1))) (readOk 0x94#8 2 s)))
  | ldp4Failed (h : nextAnswer s = .fail) :
    Ran s .ldp4 (raise .busError (transacted (.read Config.devAddr 0x94#8 2 none) s))
  | ldp5 (h : nextAnswer s = .ok) :
    Ran s .ldp5 (goPhase 0x0C#6 (putP5 (le16 (drawByte s.sensor s.draws 0x96)
      (drawByte s.sensor (s.draws + 1) (0x96 + 1))) (readOk 0x96#8 2 s)))
  | ldp5Failed (h : nextAnswer s = .fail) :
    Ran s .ldp5 (raise .busError (transacted (.read Config.devAddr 0x96#8 2 none) s))
  | ldp6 (h : nextAnswer s = .ok) :
    Ran s .ldp6 (goPhase 0x0D#6 (putP6 (le16 (drawByte s.sensor s.draws 0x98)
      (drawByte s.sensor (s.draws + 1) (0x98 + 1))) (readOk 0x98#8 2 s)))
  | ldp6Failed (h : nextAnswer s = .fail) :
    Ran s .ldp6 (raise .busError (transacted (.read Config.devAddr 0x98#8 2 none) s))
  | ldp7 (h : nextAnswer s = .ok) :
    Ran s .ldp7 (goPhase 0x0E#6 (putP7 (le16 (drawByte s.sensor s.draws 0x9A)
      (drawByte s.sensor (s.draws + 1) (0x9A + 1))) (readOk 0x9A#8 2 s)))
  | ldp7Failed (h : nextAnswer s = .fail) :
    Ran s .ldp7 (raise .busError (transacted (.read Config.devAddr 0x9A#8 2 none) s))
  | ldp8 (h : nextAnswer s = .ok) :
    Ran s .ldp8 (goPhase 0x0F#6 (putP8 (le16 (drawByte s.sensor s.draws 0x9C)
      (drawByte s.sensor (s.draws + 1) (0x9C + 1))) (readOk 0x9C#8 2 s)))
  | ldp8Failed (h : nextAnswer s = .fail) :
    Ran s .ldp8 (raise .busError (transacted (.read Config.devAddr 0x9C#8 2 none) s))
  | ldp9 (h : nextAnswer s = .ok) :
    Ran s .ldp9 (goPhase 0x10#6 (putP9 (le16 (drawByte s.sensor s.draws 0x9E)
      (drawByte s.sensor (s.draws + 1) (0x9E + 1))) (readOk 0x9E#8 2 s)))
  | ldp9Failed (h : nextAnswer s = .fail) :
    Ran s .ldp9 (raise .busError (transacted (.read Config.devAddr 0x9E#8 2 none) s))
  | ldh2 (h : nextAnswer s = .ok) :
    Ran s .ldh2 (goPhase 0x12#6 (putH2 (le16 (drawByte s.sensor s.draws 0xE1)
      (drawByte s.sensor (s.draws + 1) (0xE1 + 1))) (readOk 0xE1#8 2 s)))
  | ldh2Failed (h : nextAnswer s = .fail) :
    Ran s .ldh2 (raise .busError (transacted (.read Config.devAddr 0xE1#8 2 none) s))
  | ldh1 (h : nextAnswer s = .ok) :
    Ran s .ldh1 (goPhase 0x11#6 (putH1 (drawByte s.sensor s.draws 0xA1) (readOk 0xA1#8 1 s)))
  | ldh1Failed (h : nextAnswer s = .fail) :
    Ran s .ldh1 (raise .busError (transacted (.read Config.devAddr 0xA1#8 1 none) s))
  | ldh3 (h : nextAnswer s = .ok) :
    Ran s .ldh3 (goPhase 0x13#6 (putH3 (drawByte s.sensor s.draws 0xE3) (readOk 0xE3#8 1 s)))
  | ldh3Failed (h : nextAnswer s = .fail) :
    Ran s .ldh3 (raise .busError (transacted (.read Config.devAddr 0xE3#8 1 none) s))
  | ldh6 (h : nextAnswer s = .ok) :
    Ran s .ldh6 (goPhase 0x16#6 (putH6 (drawByte s.sensor s.draws 0xE7) (readOk 0xE7#8 1 s)))
  | ldh6Failed (h : nextAnswer s = .fail) :
    Ran s .ldh6 (raise .busError (transacted (.read Config.devAddr 0xE7#8 1 none) s))
  | ldh4 (h : nextAnswer s = .ok) (h2 : nextAnswer (readOk 0xE4#8 1 s) = .ok) :
    Ran s .ldh4 (goPhase 0x14#6 (putH4 (nibbleH4 (drawByte s.sensor s.draws 0xE4)
      (drawByte s.sensor (s.draws + 1) 0xE5)) (readOk 0xE5#8 1 (readOk 0xE4#8 1 s))))
  | ldh4SecondFailed (h : nextAnswer s = .ok) (h2 : nextAnswer (readOk 0xE4#8 1 s) = .fail) :
    Ran s .ldh4 (raise .busError (transacted (.read Config.devAddr 0xE5#8 1 none) (readOk 0xE4#8 1 s)))
  | ldh4Failed (h : nextAnswer s = .fail) :
    Ran s .ldh4 (raise .busError (transacted (.read Config.devAddr 0xE4#8 1 none) s))
  | ldh5 (h : nextAnswer s = .ok) (h2 : nextAnswer (readOk 0xE6#8 1 s) = .ok) :
    Ran s .ldh5 (goPhase 0x15#6 (putH5 (nibbleH5 (drawByte s.sensor s.draws 0xE6)
      (drawByte s.sensor (s.draws + 1) 0xE5)) (readOk 0xE5#8 1 (readOk 0xE6#8 1 s))))
  | ldh5SecondFailed (h : nextAnswer s = .ok) (h2 : nextAnswer (readOk 0xE6#8 1 s) = .fail) :
    Ran s .ldh5 (raise .busError (transacted (.read Config.devAddr 0xE5#8 1 none) (readOk 0xE6#8 1 s)))
  | ldh5Failed (h : nextAnswer s = .fail) :
    Ran s .ldh5 (raise .busError (transacted (.read Config.devAddr 0xE6#8 1 none) s))
  | rdy : Ran s .rdy (endCommand (becomeReady s))
  | trig (h : nextAnswer s = .ok) : Ran s .trig (goPhase 0x21#6 (writeOk 0xF4#8 s.params.cfgCtrlForced s))
  | trigFailed (h : nextAnswer s = .fail) :
    Ran s .trig (raise .busError (transacted (.write Config.devAddr 0xF4#8 s.params.cfgCtrlForced false) s))
  | wait : Ran s .wait (goPhase 0x22#6 s)
  | rdraw (h : nextAnswer s = .ok) :
    Ran s .rdraw (goPhase 0x23#6 (putBurst (burstOf (drawBytes s.sensor s.draws 0xF7 8)) (readOk 0xF7#8 8 s)))
  | rdrawFailed (h : nextAnswer s = .fail) :
    Ran s .rdraw (raise .busError (transacted (.read Config.devAddr 0xF7#8 8 none) s))
  | unpk : Ran s .unpk (goPhase 0x24#6 (putSample (burstP s.rb) (burstT s.rb) (burstH s.rb) s))
  | cmpt :
    Ran s .cmpt (goPhase 0x25#6 (putFine (temperatureFine s.adcT s.calT)
      (temperatureResult (temperatureFine s.adcT s.calT)) s))
  | cmph : Ran s .cmph (goPhase 0x26#6 (putHOut (humidityStage s.adcH (tfineOperand s) s.calH) (chargeTfine s)))
  | cmpp : Ran s .cmpp (goPhase 0x27#6 (putPOut (pressureStage s.adcP (tfineOperand s) s.calP) (chargeTfine s)))
  | out : Ran s .out (endCommand (publish s))

/-- A next state is what the outcome names. -/
theorem next_inj {s t : State} (h : (.next s : Outcome) = .next t) : s = t := by
  cases h
  rfl

/-- Every next state of `exec` is one of `Ran`. -/
theorem exec_ran {i : Instr} {s t : State} (h : exec i s = .next t) : Ran s i t := by
  cases i with
  | init =>
    cases hb : s.busy
    · rcases execInit_cases s hb with ⟨hl, e⟩ | ⟨hl, e⟩ <;> rw [exec, e] at h <;> obtain rfl := next_inj h
      · exact .init hb hl
      · exact .initRefused hb hl
    · simp [exec, execInit, hb] at h
  | get =>
    cases hb : s.busy
    · rcases execGet_cases s hb with ⟨hl, e⟩ | ⟨hl, e⟩ <;> rw [exec, e] at h <;> obtain rfl := next_inj h
      · exact .get hb hl
      · exact .getRefused hb hl
    · simp [exec, execGet, hb] at h
  | idle => obtain rfl := next_inj h; exact .idle
  | rdy => obtain rfl := next_inj h; exact .rdy
  | wait => obtain rfl := next_inj h; exact .wait
  | unpk => obtain rfl := next_inj h; exact .unpk
  | cmpt => obtain rfl := next_inj h; exact .cmpt
  | cmph => obtain rfl := next_inj h; exact .cmph
  | cmpp => obtain rfl := next_inj h; exact .cmpp
  | out => obtain rfl := next_inj h; exact .out
  | wrcfg0 =>
    rcases writeConfig_cases (cfgFirst s.params.cfgOrder) 0x02#6 s with ⟨a, e⟩ | ⟨a, e⟩
    · obtain rfl := next_inj (e.symm.trans h); exact .wrcfg0 a
    · obtain rfl := next_inj (e.symm.trans h); exact .wrcfg0Failed a
  | wrcfg1 =>
    rcases writeConfig_cases (cfgSecond s.params.cfgOrder) 0x03#6 s with ⟨a, e⟩ | ⟨a, e⟩
    · obtain rfl := next_inj (e.symm.trans h); exact .wrcfg1 a
    · obtain rfl := next_inj (e.symm.trans h); exact .wrcfg1Failed a
  | wrcfg2 =>
    rcases writeConfig_cases (cfgThird s.params.cfgOrder) 0x04#6 s with ⟨a, e⟩ | ⟨a, e⟩
    · obtain rfl := next_inj (e.symm.trans h); exact .wrcfg2 a
    · obtain rfl := next_inj (e.symm.trans h); exact .wrcfg2Failed a
  | ldt1 =>
    rcases loadWord_cases 0x88#8 0x05#6 putT1 s with ⟨a, e⟩ | ⟨a, e⟩
    · obtain rfl := next_inj (e.symm.trans h); exact .ldt1 a
    · obtain rfl := next_inj (e.symm.trans h); exact .ldt1Failed a
  | ldt2 =>
    rcases loadWord_cases 0x8A#8 0x06#6 putT2 s with ⟨a, e⟩ | ⟨a, e⟩
    · obtain rfl := next_inj (e.symm.trans h); exact .ldt2 a
    · obtain rfl := next_inj (e.symm.trans h); exact .ldt2Failed a
  | ldt3 =>
    rcases loadWord_cases 0x8C#8 0x07#6 putT3 s with ⟨a, e⟩ | ⟨a, e⟩
    · obtain rfl := next_inj (e.symm.trans h); exact .ldt3 a
    · obtain rfl := next_inj (e.symm.trans h); exact .ldt3Failed a
  | ldp1 =>
    rcases loadWord_cases 0x8E#8 0x08#6 putP1 s with ⟨a, e⟩ | ⟨a, e⟩
    · obtain rfl := next_inj (e.symm.trans h); exact .ldp1 a
    · obtain rfl := next_inj (e.symm.trans h); exact .ldp1Failed a
  | ldp2 =>
    rcases loadWord_cases 0x90#8 0x09#6 putP2 s with ⟨a, e⟩ | ⟨a, e⟩
    · obtain rfl := next_inj (e.symm.trans h); exact .ldp2 a
    · obtain rfl := next_inj (e.symm.trans h); exact .ldp2Failed a
  | ldp3 =>
    rcases loadWord_cases 0x92#8 0x0A#6 putP3 s with ⟨a, e⟩ | ⟨a, e⟩
    · obtain rfl := next_inj (e.symm.trans h); exact .ldp3 a
    · obtain rfl := next_inj (e.symm.trans h); exact .ldp3Failed a
  | ldp4 =>
    rcases loadWord_cases 0x94#8 0x0B#6 putP4 s with ⟨a, e⟩ | ⟨a, e⟩
    · obtain rfl := next_inj (e.symm.trans h); exact .ldp4 a
    · obtain rfl := next_inj (e.symm.trans h); exact .ldp4Failed a
  | ldp5 =>
    rcases loadWord_cases 0x96#8 0x0C#6 putP5 s with ⟨a, e⟩ | ⟨a, e⟩
    · obtain rfl := next_inj (e.symm.trans h); exact .ldp5 a
    · obtain rfl := next_inj (e.symm.trans h); exact .ldp5Failed a
  | ldp6 =>
    rcases loadWord_cases 0x98#8 0x0D#6 putP6 s with ⟨a, e⟩ | ⟨a, e⟩
    · obtain rfl := next_inj (e.symm.trans h); exact .ldp6 a
    · obtain rfl := next_inj (e.symm.trans h); exact .ldp6Failed a
  | ldp7 =>
    rcases loadWord_cases 0x9A#8 0x0E#6 putP7 s with ⟨a, e⟩ | ⟨a, e⟩
    · obtain rfl := next_inj (e.symm.trans h); exact .ldp7 a
    · obtain rfl := next_inj (e.symm.trans h); exact .ldp7Failed a
  | ldp8 =>
    rcases loadWord_cases 0x9C#8 0x0F#6 putP8 s with ⟨a, e⟩ | ⟨a, e⟩
    · obtain rfl := next_inj (e.symm.trans h); exact .ldp8 a
    · obtain rfl := next_inj (e.symm.trans h); exact .ldp8Failed a
  | ldp9 =>
    rcases loadWord_cases 0x9E#8 0x10#6 putP9 s with ⟨a, e⟩ | ⟨a, e⟩
    · obtain rfl := next_inj (e.symm.trans h); exact .ldp9 a
    · obtain rfl := next_inj (e.symm.trans h); exact .ldp9Failed a
  | ldh2 =>
    rcases loadWord_cases 0xE1#8 0x12#6 putH2 s with ⟨a, e⟩ | ⟨a, e⟩
    · obtain rfl := next_inj (e.symm.trans h); exact .ldh2 a
    · obtain rfl := next_inj (e.symm.trans h); exact .ldh2Failed a
  | ldh1 =>
    rcases loadByte_cases 0xA1#8 0x11#6 putH1 s with ⟨a, e⟩ | ⟨a, e⟩
    · obtain rfl := next_inj (e.symm.trans h); exact .ldh1 a
    · obtain rfl := next_inj (e.symm.trans h); exact .ldh1Failed a
  | ldh3 =>
    rcases loadByte_cases 0xE3#8 0x13#6 putH3 s with ⟨a, e⟩ | ⟨a, e⟩
    · obtain rfl := next_inj (e.symm.trans h); exact .ldh3 a
    · obtain rfl := next_inj (e.symm.trans h); exact .ldh3Failed a
  | ldh6 =>
    rcases loadByte_cases 0xE7#8 0x16#6 putH6 s with ⟨a, e⟩ | ⟨a, e⟩
    · obtain rfl := next_inj (e.symm.trans h); exact .ldh6 a
    · obtain rfl := next_inj (e.symm.trans h); exact .ldh6Failed a
  | trig =>
    rcases writeThen_cases 0xF4#8 s.params.cfgCtrlForced (fun s1 => .next (goPhase 0x21#6 s1)) s with ⟨a, e⟩ | ⟨a, e⟩
    · obtain rfl := next_inj (e.symm.trans h); exact .trig a
    · obtain rfl := next_inj (e.symm.trans h); exact .trigFailed a
  | rdraw =>
    rcases readThen_cases Config.burstBase Config.nBurst
      (fun b s1 => .next (goPhase 0x23#6 (putBurst (burstOf b) s1))) s with ⟨a, e⟩ | ⟨a, e⟩
    · obtain rfl := next_inj (e.symm.trans h); exact .rdraw a
    · obtain rfl := next_inj (e.symm.trans h); exact .rdrawFailed a
  | ldh4 =>
    rcases loadTwoBytes_cases 0xE4#8 0xE5#8 0x14#6 (fun x y => putH4 (nibbleH4 x y)) s with ⟨a, b, e⟩ | ⟨a, b, e⟩ | ⟨a, e⟩
    · obtain rfl := next_inj (e.symm.trans h); exact .ldh4 a b
    · obtain rfl := next_inj (e.symm.trans h); exact .ldh4SecondFailed a b
    · obtain rfl := next_inj (e.symm.trans h); exact .ldh4Failed a
  | ldh5 =>
    rcases loadTwoBytes_cases 0xE6#8 0xE5#8 0x15#6 (fun x y => putH5 (nibbleH5 x y)) s with ⟨a, b, e⟩ | ⟨a, b, e⟩ | ⟨a, e⟩
    · obtain rfl := next_inj (e.symm.trans h); exact .ldh5 a b
    · obtain rfl := next_inj (e.symm.trans h); exact .ldh5SecondFailed a b
    · obtain rfl := next_inj (e.symm.trans h); exact .ldh5Failed a

/-- Every instruction but INIT and GET, which wait for `BUSY = 0`, has a next state in every state. -/
theorem exec_completes {i : Instr} (hi : i ≠ .init) (hg : i ≠ .get) (s : State) : ∃ t, exec i s = .next t := by
  cases i with
  | init => exact absurd rfl hi
  | get => exact absurd rfl hg
  | idle => exact ⟨_, rfl⟩
  | rdy => exact ⟨_, rfl⟩
  | wait => exact ⟨_, rfl⟩
  | unpk => exact ⟨_, rfl⟩
  | cmpt => exact ⟨_, rfl⟩
  | cmph => exact ⟨_, rfl⟩
  | cmpp => exact ⟨_, rfl⟩
  | out => exact ⟨_, rfl⟩
  | wrcfg0 =>
    rcases writeConfig_cases (cfgFirst s.params.cfgOrder) 0x02#6 s with ⟨_, e⟩ | ⟨_, e⟩ <;>
      exact ⟨_, e⟩
  | wrcfg1 =>
    rcases writeConfig_cases (cfgSecond s.params.cfgOrder) 0x03#6 s with ⟨_, e⟩ | ⟨_, e⟩ <;>
      exact ⟨_, e⟩
  | wrcfg2 =>
    rcases writeConfig_cases (cfgThird s.params.cfgOrder) 0x04#6 s with ⟨_, e⟩ | ⟨_, e⟩ <;>
      exact ⟨_, e⟩
  | ldt1 =>
    rcases loadWord_cases 0x88#8 0x05#6 putT1 s with ⟨_, e⟩ | ⟨_, e⟩ <;>
      exact ⟨_, e⟩
  | ldt2 =>
    rcases loadWord_cases 0x8A#8 0x06#6 putT2 s with ⟨_, e⟩ | ⟨_, e⟩ <;>
      exact ⟨_, e⟩
  | ldt3 =>
    rcases loadWord_cases 0x8C#8 0x07#6 putT3 s with ⟨_, e⟩ | ⟨_, e⟩ <;>
      exact ⟨_, e⟩
  | ldp1 =>
    rcases loadWord_cases 0x8E#8 0x08#6 putP1 s with ⟨_, e⟩ | ⟨_, e⟩ <;>
      exact ⟨_, e⟩
  | ldp2 =>
    rcases loadWord_cases 0x90#8 0x09#6 putP2 s with ⟨_, e⟩ | ⟨_, e⟩ <;>
      exact ⟨_, e⟩
  | ldp3 =>
    rcases loadWord_cases 0x92#8 0x0A#6 putP3 s with ⟨_, e⟩ | ⟨_, e⟩ <;>
      exact ⟨_, e⟩
  | ldp4 =>
    rcases loadWord_cases 0x94#8 0x0B#6 putP4 s with ⟨_, e⟩ | ⟨_, e⟩ <;>
      exact ⟨_, e⟩
  | ldp5 =>
    rcases loadWord_cases 0x96#8 0x0C#6 putP5 s with ⟨_, e⟩ | ⟨_, e⟩ <;>
      exact ⟨_, e⟩
  | ldp6 =>
    rcases loadWord_cases 0x98#8 0x0D#6 putP6 s with ⟨_, e⟩ | ⟨_, e⟩ <;>
      exact ⟨_, e⟩
  | ldp7 =>
    rcases loadWord_cases 0x9A#8 0x0E#6 putP7 s with ⟨_, e⟩ | ⟨_, e⟩ <;>
      exact ⟨_, e⟩
  | ldp8 =>
    rcases loadWord_cases 0x9C#8 0x0F#6 putP8 s with ⟨_, e⟩ | ⟨_, e⟩ <;>
      exact ⟨_, e⟩
  | ldp9 =>
    rcases loadWord_cases 0x9E#8 0x10#6 putP9 s with ⟨_, e⟩ | ⟨_, e⟩ <;>
      exact ⟨_, e⟩
  | ldh2 =>
    rcases loadWord_cases 0xE1#8 0x12#6 putH2 s with ⟨_, e⟩ | ⟨_, e⟩ <;>
      exact ⟨_, e⟩
  | ldh1 =>
    rcases loadByte_cases 0xA1#8 0x11#6 putH1 s with ⟨_, e⟩ | ⟨_, e⟩ <;>
      exact ⟨_, e⟩
  | ldh3 =>
    rcases loadByte_cases 0xE3#8 0x13#6 putH3 s with ⟨_, e⟩ | ⟨_, e⟩ <;>
      exact ⟨_, e⟩
  | ldh6 =>
    rcases loadByte_cases 0xE7#8 0x16#6 putH6 s with ⟨_, e⟩ | ⟨_, e⟩ <;>
      exact ⟨_, e⟩
  | trig =>
    rcases writeThen_cases 0xF4#8 s.params.cfgCtrlForced (fun s1 => .next (goPhase 0x21#6 s1)) s with ⟨_, e⟩ | ⟨_, e⟩ <;>
      exact ⟨_, e⟩
  | rdraw =>
    rcases readThen_cases Config.burstBase Config.nBurst
      (fun b s1 => .next (goPhase 0x23#6 (putBurst (burstOf b) s1))) s with ⟨_, e⟩ | ⟨_, e⟩ <;>
      exact ⟨_, e⟩
  | ldh4 =>
    rcases loadTwoBytes_cases 0xE4#8 0xE5#8 0x14#6 (fun x y => putH4 (nibbleH4 x y)) s with ⟨_, _, e⟩ | ⟨_, _, e⟩ | ⟨_, e⟩ <;>
      exact ⟨_, e⟩
  | ldh5 =>
    rcases loadTwoBytes_cases 0xE6#8 0xE5#8 0x15#6 (fun x y => putH5 (nibbleH5 x y)) s with ⟨_, _, e⟩ | ⟨_, _, e⟩ | ⟨_, e⟩ <;>
      exact ⟨_, e⟩

/-- A phase code that decodes is the code of its instruction (R94). -/
theorem decodePhase_code {c : PhaseCode} {i : Instr} (h : decodePhase c = .ok i) : encode i = .ph6 c := by
  have key : ∀ n : Fin 64, ∀ i, decodePhase (BitVec.ofNat 6 n.val) = .ok i → encode i = .ph6 (BitVec.ofNat 6 n.val) := by
    intro n i
    revert n
    cases i <;> decide
  have hc : BitVec.ofNat 6 c.toNat = c := by simp
  have k := key ⟨c.toNat, c.isLt⟩ i
  simp only [hc] at k
  exact k h

/-- The code of an instruction that has a phase code decodes to it (R94). -/
theorem decodePhase_encode {c : PhaseCode} {i : Instr} (h : encode i = .ph6 c) : decodePhase c = .ok i := by
  cases i <;> cases h <;> rfl

/-- The codes of the two sequences decode (R94). -/
theorem decodePhase_sequence {c : PhaseCode} (h : initPhase c = true ∨ getPhase c = true) :
    ∃ i, decodePhase c = .ok i := by
  have key : ∀ n : Fin 64, (initPhase (BitVec.ofNat 6 n.val) = true ∨ getPhase (BitVec.ofNat 6 n.val) = true) →
      (match decodePhase (BitVec.ofNat 6 n.val) with | .ok _ => true | .error _ => false) = true := by decide
  have hc : BitVec.ofNat 6 c.toNat = c := by simp
  have k := key ⟨c.toNat, c.isLt⟩
  simp only [hc] at k
  have k := k h
  cases hd : decodePhase c with
  | ok i => exact ⟨i, rfl⟩
  | error e => rw [hd] at k; cases k

/-- CORE's turn is taken in s but for the script. -/
theorem atTurn_eq (s : State) : ∃ l, atTurn s = { s with script := l } := by
  unfold atTurn
  split
  · exact ⟨_, rfl⟩
  · exact ⟨s.script, rfl⟩

/-- The sensor's act changes the list of the sensor and nothing else. -/
theorem sensorActs_eq (a : Byte) (v : Option Byte) (s : State) : ∃ m, sensorActs a v s = { s with sensor := m } := by
  cases v <;> exact ⟨_, rfl⟩

/-- Every next state of dispatch. -/
theorem presentCommand_ran {w : Byte} {s t : State} (hb : s.busy = false) (h : presentCommand w s = .next t) :
    (w = 0x01#8 ∧ s.lc = .uninit ∧ t = goPhase 0x01#6 (acceptInit s)) ∨
      (w = 0x02#8 ∧ s.lc = .ready ∧ t = goPhase 0x20#6 (acceptGet s)) ∨
      (((w = 0x01#8 ∧ s.lc = .ready) ∨ (w = 0x02#8 ∧ s.lc = .uninit)) ∧ t = raise .sequenceError s) ∨
      (w ≠ 0x01#8 ∧ w ≠ 0x02#8 ∧ t = raise .illegalCommand s) := by
  rcases presentCommand_cases w s hb with ⟨h1, h2, e⟩ | ⟨h1, h2, e⟩ | ⟨h1, e⟩ | ⟨h1, h2, e⟩ <;>
    obtain rfl := next_inj (e.symm.trans h)
  · exact .inl ⟨h1, h2, rfl⟩
  · exact .inr (.inl ⟨h1, h2, rfl⟩)
  · exact .inr (.inr (.inl ⟨h1, rfl⟩))
  · exact .inr (.inr (.inr ⟨h1, h2, rfl⟩))

/-- Every next state of a step: a micro-operation, idling, a dispatch, or an act of the host, the sensor or the
transport. -/
theorem step_ran {s t : State} (h : step s = .next t) :
    (s.busy = true ∧ coreMoves s = true ∧ ∃ i, encode i = .ph6 s.phase ∧ Ran (atTurn s) i t) ∨
      (s.busy = false ∧ coreMoves s = true ∧ t = atTurn s) ∨
      (∃ w rest, s.script = .command w :: rest ∧ s.busy = false ∧ presentCommand w (dropEvent s) = .next t) ∨
      (∃ rest, s.script = .awaitIdle :: rest ∧ s.busy = false ∧ t = dropEvent s) ∨
      (∃ rest, s.script = .reset :: rest ∧ t = assertReset (dropEvent s)) ∨
      (∃ rest, s.script = .readStatus :: rest ∧ t = hostReadsStatus (dropEvent s)) ∨
      (∃ r rest, s.script = .readResult r :: rest ∧ t = hostReadsResult r (dropEvent s)) ∨
      (∃ a v rest, s.script = .sensor a v :: rest ∧ t = sensorActs a v (dropEvent s)) ∨
      (∃ k rest, s.script = .failNth k :: rest ∧ t = transportWillFail k (dropEvent s)) ∨
      (s.script = [.hang] ∧ t = s) ∨
      (∃ e rest, s.script = .hang :: e :: rest ∧ t = dropEvent s) := by
  have hb : (atTurn s).busy = s.busy := by obtain ⟨l, e⟩ := atTurn_eq s; rw [e]
  have hp : (atTurn s).phase = s.phase := by obtain ⟨l, e⟩ := atTurn_eq s; rw [e]
  rcases step_cases s with ⟨m, e⟩ | ⟨w, r, h1, h2, e⟩ | ⟨r, h1, h2, e⟩ | ⟨r, h1, e⟩ | ⟨r, h1, e⟩ | ⟨x, r, h1, e⟩ |
    ⟨x, v, r, h1, e⟩ | ⟨x, r, h1, e⟩ | ⟨h1, e⟩ | ⟨x, r, h1, e⟩
  · rcases coreTurn_cases (atTurn s) with ⟨b, e2⟩ | ⟨b, i, d, e2⟩ | ⟨b, d, e2⟩ <;> rw [e, e2] at h
    · exact .inr (.inl ⟨hb ▸ b, m, (next_inj h).symm⟩)
    · exact .inl ⟨hb ▸ b, m, i, by rw [← hp]; exact decodePhase_code d, exec_ran h⟩
    · cases h
  · exact .inr (.inr (.inl ⟨_, _, h1, h2, e.symm.trans h⟩))
  · exact .inr (.inr (.inr (.inl ⟨_, h1, h2, next_inj (h.symm.trans e)⟩)))
  · exact .inr (.inr (.inr (.inr (.inl ⟨_, h1, next_inj (h.symm.trans e)⟩))))
  · exact .inr (.inr (.inr (.inr (.inr (.inl ⟨_, h1, next_inj (h.symm.trans e)⟩)))))
  · exact .inr (.inr (.inr (.inr (.inr (.inr (.inl ⟨_, _, h1, next_inj (h.symm.trans e)⟩))))))
  · exact .inr (.inr (.inr (.inr (.inr (.inr (.inr (.inl ⟨_, _, _, h1, next_inj (h.symm.trans e)⟩)))))))
  · exact .inr (.inr (.inr (.inr (.inr (.inr (.inr (.inr (.inl ⟨_, _, h1, next_inj (h.symm.trans e)⟩))))))))
  · exact .inr (.inr (.inr (.inr (.inr (.inr (.inr (.inr (.inr (.inl ⟨h1, next_inj (h.symm.trans e)⟩)))))))))
  · exact .inr (.inr (.inr (.inr (.inr (.inr (.inr (.inr (.inr (.inr ⟨_, _, h1, next_inj (h.symm.trans e)⟩)))))))))

end Sys2Proof.Machine
end

