-- ==== Sys2Proof/Laws/PerInstr.lean ====
section
/-! SUPPORT. The statements made for every instruction, one lemma per constructor. -/

namespace Sys2Proof.Laws

/-- The instruction is well formed, its code is a code of its format, and the decoder reads it back. -/
def EncodingRoundTrip.Statement (i : Instr) : Prop :=
  i.wellFormed = true ∧ (encode i).wellFormed = true ∧ decode (encode i) = .ok i

theorem EncodingRoundTrip.init : EncodingRoundTrip.Statement .init := ⟨rfl, rfl, rfl⟩
theorem EncodingRoundTrip.get : EncodingRoundTrip.Statement .get := ⟨rfl, rfl, rfl⟩
theorem EncodingRoundTrip.idle : EncodingRoundTrip.Statement .idle := ⟨rfl, rfl, rfl⟩
theorem EncodingRoundTrip.wrcfg0 : EncodingRoundTrip.Statement .wrcfg0 := ⟨rfl, rfl, rfl⟩
theorem EncodingRoundTrip.wrcfg1 : EncodingRoundTrip.Statement .wrcfg1 := ⟨rfl, rfl, rfl⟩
theorem EncodingRoundTrip.wrcfg2 : EncodingRoundTrip.Statement .wrcfg2 := ⟨rfl, rfl, rfl⟩
theorem EncodingRoundTrip.ldt1 : EncodingRoundTrip.Statement .ldt1 := ⟨rfl, rfl, rfl⟩
theorem EncodingRoundTrip.ldt2 : EncodingRoundTrip.Statement .ldt2 := ⟨rfl, rfl, rfl⟩
theorem EncodingRoundTrip.ldt3 : EncodingRoundTrip.Statement .ldt3 := ⟨rfl, rfl, rfl⟩
theorem EncodingRoundTrip.ldp1 : EncodingRoundTrip.Statement .ldp1 := ⟨rfl, rfl, rfl⟩
theorem EncodingRoundTrip.ldp2 : EncodingRoundTrip.Statement .ldp2 := ⟨rfl, rfl, rfl⟩
theorem EncodingRoundTrip.ldp3 : EncodingRoundTrip.Statement .ldp3 := ⟨rfl, rfl, rfl⟩
theorem EncodingRoundTrip.ldp4 : EncodingRoundTrip.Statement .ldp4 := ⟨rfl, rfl, rfl⟩
theorem EncodingRoundTrip.ldp5 : EncodingRoundTrip.Statement .ldp5 := ⟨rfl, rfl, rfl⟩
theorem EncodingRoundTrip.ldp6 : EncodingRoundTrip.Statement .ldp6 := ⟨rfl, rfl, rfl⟩
theorem EncodingRoundTrip.ldp7 : EncodingRoundTrip.Statement .ldp7 := ⟨rfl, rfl, rfl⟩
theorem EncodingRoundTrip.ldp8 : EncodingRoundTrip.Statement .ldp8 := ⟨rfl, rfl, rfl⟩
theorem EncodingRoundTrip.ldp9 : EncodingRoundTrip.Statement .ldp9 := ⟨rfl, rfl, rfl⟩
theorem EncodingRoundTrip.ldh1 : EncodingRoundTrip.Statement .ldh1 := ⟨rfl, rfl, rfl⟩
theorem EncodingRoundTrip.ldh2 : EncodingRoundTrip.Statement .ldh2 := ⟨rfl, rfl, rfl⟩
theorem EncodingRoundTrip.ldh3 : EncodingRoundTrip.Statement .ldh3 := ⟨rfl, rfl, rfl⟩
theorem EncodingRoundTrip.ldh4 : EncodingRoundTrip.Statement .ldh4 := ⟨rfl, rfl, rfl⟩
theorem EncodingRoundTrip.ldh5 : EncodingRoundTrip.Statement .ldh5 := ⟨rfl, rfl, rfl⟩
theorem EncodingRoundTrip.ldh6 : EncodingRoundTrip.Statement .ldh6 := ⟨rfl, rfl, rfl⟩
theorem EncodingRoundTrip.rdy : EncodingRoundTrip.Statement .rdy := ⟨rfl, rfl, rfl⟩
theorem EncodingRoundTrip.trig : EncodingRoundTrip.Statement .trig := ⟨rfl, rfl, rfl⟩
theorem EncodingRoundTrip.wait : EncodingRoundTrip.Statement .wait := ⟨rfl, rfl, rfl⟩
theorem EncodingRoundTrip.rdraw : EncodingRoundTrip.Statement .rdraw := ⟨rfl, rfl, rfl⟩
theorem EncodingRoundTrip.unpk : EncodingRoundTrip.Statement .unpk := ⟨rfl, rfl, rfl⟩
theorem EncodingRoundTrip.cmpt : EncodingRoundTrip.Statement .cmpt := ⟨rfl, rfl, rfl⟩
theorem EncodingRoundTrip.cmph : EncodingRoundTrip.Statement .cmph := ⟨rfl, rfl, rfl⟩
theorem EncodingRoundTrip.cmpp : EncodingRoundTrip.Statement .cmpp := ⟨rfl, rfl, rfl⟩
theorem EncodingRoundTrip.out : EncodingRoundTrip.Statement .out := ⟨rfl, rfl, rfl⟩

end Sys2Proof.Laws
end

