-- ==== Sys2Proof/Laws/Run.lean ====
section
/-! SUPPORT. Steps of a running command, one after the other, where the transport answers Ok and the environment has
fixed the registers read. A proof about a whole command chains these with `steps_succ` and closes with `state_ext`. -/

namespace Sys2Proof.Machine

/-- One step in front. -/
theorem steps_succ {s t : State} (n : Nat) (h : step s = .next t) : steps (n + 1) s = steps n t := by
  simp [steps, h]

/-- With nothing in the script, a busy CORE executes the micro-operation in `PHASE` (R154). -/
theorem step_turn {s : State} {i : Instr} (hb : s.busy = true) (hs : s.script = [])
    (hd : decodePhase s.phase = .ok i) : step s = exec i s := by
  simp [step, sequencerStep, hs, coreTurn, hb, hd]

/-- A transport that has only Ok in store answers Ok. -/
theorem nextAnswer_allOk {s : State} (h : AllOk s) : nextAnswer s = .ok := by
  unfold nextAnswer
  cases ht : s.transport with
  | nil => rfl
  | cons a l => exact h a (by simp [ht])

/-- One answer used, the others are Ok still. -/
theorem allOk_tail {s : State} (h : AllOk s) : ∀ x ∈ s.transport.tail, x = BusAnswer.ok :=
  fun x hx => h x (List.mem_of_mem_tail hx)

theorem chargeTfine_valid {s : State} (h : s.tfv = true) : chargeTfine s = s := by
  apply state_ext <;> simp [chargeTfine, h]

theorem tfineOperand_valid {s : State} (h : s.tfv = true) : tfineOperand s = s.tfine := by
  simp [tfineOperand, h]

/-- A command runs and it is at code c: nothing is in the script, the transport has only Ok in store, and the registers
that r selects hold what m says. -/
structure Running (m : Nat → Byte) (r : Nat → Bool) (c : PhaseCode) (s : State) : Prop where
  busy : s.busy = true
  script : s.script = []
  phase : s.phase = c
  ok : AllOk s
  lists : Lists s r m

/-- s after a successful read that gave these bytes. -/
def gotBytes (a : Byte) (n : Nat) (b : List Byte) (s : State) : State :=
  transacted (.read Config.devAddr a n (some b)) { s with draws := s.draws + n }

/-- A named update leaves alone what a running command needs. -/
def Quiet (f : State → State) : Prop :=
  ∀ u, (f u).busy = u.busy ∧ (f u).script = u.script ∧ (f u).transport = u.transport ∧ (f u).sensor = u.sensor

theorem loadWord_running {m : Nat → Byte} {r : Nat → Bool} {c next : PhaseCode} {s : State} {i : Instr} {a : Byte}
    {put : Half → State → State} (g : Running m r c s) (hx : ∀ u, exec i u = loadWord a next put u)
    (hd : decodePhase c = .ok i) (h1 : r a.toNat = true) (h2 : r (a.toNat + 1) = true) (hq : ∀ v, Quiet (put v)) :
    step s = .next (goPhase next (put (le16 (m a.toNat) (m (a.toNat + 1)))
        (gotBytes a 2 [m a.toNat, m (a.toNat + 1)] s))) ∧
      Running m r next (goPhase next (put (le16 (m a.toNat) (m (a.toNat + 1)))
        (gotBytes a 2 [m a.toNat, m (a.toNat + 1)] s))) := by
  constructor
  · rw [step_turn g.busy g.script (g.phase ▸ hd), hx]
    rcases loadWord_cases a next put s with ⟨_, e⟩ | ⟨h, _⟩
    · rw [e]
      simp only [readOk, drawBytes, drawByte_listed _ (g.lists _ h1), drawByte_listed _ (g.lists _ h2), gotBytes]
    · rw [nextAnswer_allOk g.ok] at h
      cases h
  · obtain ⟨p1, p2, p3, p4⟩ := hq (le16 (m a.toNat) (m (a.toNat + 1))) (gotBytes a 2 [m a.toNat, m (a.toNat + 1)] s)
    refine ⟨p1.trans g.busy, p2.trans g.script, rfl, ?_, ?_⟩
    · intro x hx
      rw [goPhase_transport, p3] at hx
      exact allOk_tail g.ok x hx
    · intro b hb
      rw [goPhase_sensor, p4]
      exact g.lists b hb

theorem loadByte_running {m : Nat → Byte} {r : Nat → Bool} {c next : PhaseCode} {s : State} {i : Instr} {a : Byte}
    {put : Byte → State → State} (g : Running m r c s) (hx : ∀ u, exec i u = loadByte a next put u)
    (hd : decodePhase c = .ok i) (h1 : r a.toNat = true) (hq : ∀ v, Quiet (put v)) :
    step s = .next (goPhase next (put (m a.toNat) (gotBytes a 1 [m a.toNat] s))) ∧
      Running m r next (goPhase next (put (m a.toNat) (gotBytes a 1 [m a.toNat] s))) := by
  constructor
  · rw [step_turn g.busy g.script (g.phase ▸ hd), hx]
    rcases loadByte_cases a next put s with ⟨_, e⟩ | ⟨h, _⟩
    · rw [e]
      simp only [readOk, drawBytes, drawByte_listed _ (g.lists _ h1), gotBytes]
    · rw [nextAnswer_allOk g.ok] at h
      cases h
  · obtain ⟨p1, p2, p3, p4⟩ := hq (m a.toNat) (gotBytes a 1 [m a.toNat] s)
    refine ⟨p1.trans g.busy, p2.trans g.script, rfl, ?_, ?_⟩
    · intro x hx
      rw [goPhase_transport, p3] at hx
      exact allOk_tail g.ok x hx
    · intro b hb
      rw [goPhase_sensor, p4]
      exact g.lists b hb

theorem loadTwoBytes_running {m : Nat → Byte} {r : Nat → Bool} {c next : PhaseCode} {s : State} {i : Instr}
    {a b : Byte} {put : Byte → Byte → State → State} (g : Running m r c s)
    (hx : ∀ u, exec i u = loadTwoBytes a b next put u) (hd : decodePhase c = .ok i) (h1 : r a.toNat = true)
    (h2 : r b.toNat = true) (hq : ∀ v w, Quiet (put v w)) :
    step s = .next (goPhase next (put (m a.toNat) (m b.toNat)
        (gotBytes b 1 [m b.toNat] (gotBytes a 1 [m a.toNat] s)))) ∧
      Running m r next (goPhase next (put (m a.toNat) (m b.toNat)
        (gotBytes b 1 [m b.toNat] (gotBytes a 1 [m a.toNat] s)))) := by
  have ok2 : AllOk (readOk a 1 s) := allOk_tail g.ok
  constructor
  · rw [step_turn g.busy g.script (g.phase ▸ hd), hx]
    rcases loadTwoBytes_cases a b next put s with ⟨_, _, e⟩ | ⟨_, h, _⟩ | ⟨h, _⟩
    · rw [e]
      simp only [readOk, drawBytes, transacted_sensor, drawByte_listed _ (g.lists _ h1),
        drawByte_listed _ (g.lists _ h2), gotBytes]
    · rw [nextAnswer_allOk ok2] at h
      cases h
    · rw [nextAnswer_allOk g.ok] at h
      cases h
  · obtain ⟨p1, p2, p3, p4⟩ :=
      hq (m a.toNat) (m b.toNat) (gotBytes b 1 [m b.toNat] (gotBytes a 1 [m a.toNat] s))
    refine ⟨p1.trans g.busy, p2.trans g.script, rfl, ?_, ?_⟩
    · intro x hx
      rw [goPhase_transport, p3] at hx
      exact allOk_tail ok2 x hx
    · intro d hd
      rw [goPhase_sensor, p4]
      exact g.lists d hd

theorem writeThen_running {m : Nat → Byte} {r : Nat → Bool} {c next : PhaseCode} {s : State} {i : Instr} {a v : Byte}
    (g : Running m r c s) (hx : exec i s = writeThen a v (fun u => .next (goPhase next u)) s)
    (hd : decodePhase c = .ok i) (hr : ∀ b, r b = true → b ≠ a.toNat) :
    step s = .next (goPhase next (writeOk a v s)) ∧ Running m r next (goPhase next (writeOk a v s)) := by
  constructor
  · rw [step_turn g.busy g.script (g.phase ▸ hd), hx]
    rcases writeThen_cases a v (fun u => .next (goPhase next u)) s with ⟨_, e⟩ | ⟨h, _⟩
    · exact e
    · rw [nextAnswer_allOk g.ok] at h
      cases h
  · refine ⟨by simp [g.busy], by simp [g.script], rfl, allOk_tail g.ok, ?_⟩
    intro b hb
    simp only [goPhase_sensor, writeOk_sensor]
    rw [lookup_write_other _ _ _ _ (hr b hb)]
    exact g.lists b hb

end Sys2Proof.Machine
end

