-- ==== Sys2Proof/Tests/Slice0.lean ====
section
/-! SUPPORT. Tests: the checks of WellFormed, the decoding of every constructor from a written-out code, vectors of
spec 95_test_vectors.md, and one witness for every statement with hypotheses. -/

open Sys2Proof Sys2Proof.Machine

namespace Sys2Proof.Tests

/-! ### WellFormed refuses -/

theorem test_reserved_command_low : (CodeWord.cmd8 0x00#8).wellFormed = false := by decide
theorem test_reserved_command_next : (CodeWord.cmd8 0x03#8).wellFormed = false := by decide
theorem test_unused_phase_gap : (CodeWord.ph6 0x17#6).wellFormed = false ∧ (CodeWord.ph6 0x1F#6).wellFormed = false := by
  decide
theorem test_unused_phase_top : (CodeWord.ph6 0x28#6).wellFormed = false ∧ (CodeWord.ph6 0x3F#6).wellFormed = false := by
  decide

/-- Parameters whose forced byte is the idle byte (R5). -/
def badParams : Params where
  cfgFilter := 0x10#8
  cfgCtrlIdle := 0x24#8
  cfgCtrlForced := 0x24#8
  cfgHum := 0x01#8
  cfgOrder := .o542

/-- Parameters for the tests. -/
def testParams : Params := { badParams with cfgCtrlForced := 0x25#8 }

theorem test_params_refused : badParams.wellFormed = false := by decide
theorem test_params_accepted : testParams.wellFormed = true := by decide
theorem test_memory_unsorted_refused : Memory.wf [(0xF4, 1#8), (0xF2, 1#8)] = false := by decide
theorem test_memory_twice_refused : Memory.wf [(0xF4, 1#8), (0xF4, 2#8)] = false := by decide
theorem test_memory_high_refused : Memory.wf [(256, 1#8)] = false := by decide
theorem test_memory_write_keeps_order :
    Memory.write [(0x88, 1#8), (0xF4, 2#8)] 0xA1 7#8 = [(0x88, 1#8), (0xA1, 7#8), (0xF4, 2#8)] := by decide

/-! ### Decoding, every code written out bit by bit (R91, R94) -/

theorem test_decode_commands :
    decodeCommand 0b00000001#8 = .ok .init ∧ decodeCommand 0b00000010#8 = .ok .get ∧
      decodeCommand 0b00000011#8 = .error (.reservedCommand 0b00000011#8) := by decide
theorem test_decode_idle_config :
    decodePhase 0b000000#6 = .ok .idle ∧ decodePhase 0b000001#6 = .ok .wrcfg0 ∧ decodePhase 0b000010#6 = .ok .wrcfg1 ∧
      decodePhase 0b000011#6 = .ok .wrcfg2 := by decide
theorem test_decode_temperature_loads :
    decodePhase 0b000100#6 = .ok .ldt1 ∧ decodePhase 0b000101#6 = .ok .ldt2 ∧
      decodePhase 0b000110#6 = .ok .ldt3 := by decide
theorem test_decode_pressure_loads :
    decodePhase 0b000111#6 = .ok .ldp1 ∧ decodePhase 0b001000#6 = .ok .ldp2 ∧ decodePhase 0b001001#6 = .ok .ldp3 ∧
      decodePhase 0b001010#6 = .ok .ldp4 ∧ decodePhase 0b001011#6 = .ok .ldp5 ∧ decodePhase 0b001100#6 = .ok .ldp6 ∧
      decodePhase 0b001101#6 = .ok .ldp7 ∧ decodePhase 0b001110#6 = .ok .ldp8 ∧
      decodePhase 0b001111#6 = .ok .ldp9 := by decide
theorem test_decode_humidity_loads :
    decodePhase 0b010000#6 = .ok .ldh1 ∧ decodePhase 0b010001#6 = .ok .ldh2 ∧ decodePhase 0b010010#6 = .ok .ldh3 ∧
      decodePhase 0b010011#6 = .ok .ldh4 ∧ decodePhase 0b010100#6 = .ok .ldh5 ∧ decodePhase 0b010101#6 = .ok .ldh6 ∧
      decodePhase 0b010110#6 = .ok .rdy := by decide
theorem test_decode_get_sequence :
    decodePhase 0b100000#6 = .ok .trig ∧ decodePhase 0b100001#6 = .ok .wait ∧ decodePhase 0b100010#6 = .ok .rdraw ∧
      decodePhase 0b100011#6 = .ok .unpk ∧ decodePhase 0b100100#6 = .ok .cmpt ∧ decodePhase 0b100101#6 = .ok .cmph ∧
      decodePhase 0b100110#6 = .ok .cmpp ∧ decodePhase 0b100111#6 = .ok .out := by decide
theorem test_decode_unused :
    decodePhase 0b010111#6 = .error (.unusedPhase 0b010111#6) ∧
      decodePhase 0b101000#6 = .error (.unusedPhase 0b101000#6) := by decide
theorem test_table_word :
    decodeTableWord 8 0x01 = some .init ∧ decodeTableWord 6 0x01 = some .wrcfg0 ∧ decodeTableWord 8 0x27 = some .out ∧
      decodeTableWord 8 0x17 = none ∧ decodeTableWord 8 0x67 = none := by decide

/-! ### States for the tests -/

/-- CORE after reset with the test parameters. -/
def fresh : State := { State.reset with params := testParams }

/-- CORE at a code of the INIT sequence. -/
def initAt (c : PhaseCode) : State := { fresh with busy := true, phase := c }

/-- CORE at a code of the GET sequence; `TFV` is as R308 has it. -/
def getAt (c : PhaseCode) : State :=
  { fresh with busy := true, lc := .ready, phase := c, tfv := decide (0x25#6 ≤ c) }

/-- CORE ready for a GET. -/
def ready : State := { fresh with lc := .ready }

/-- The coefficients of the worked examples (spec 95_test_vectors.md). -/
def exampleT : TempCal := { t1 := 27504#16, t2 := 26435#16, t3 := BitVec.ofInt 16 (-1000) }
def exampleH : HumCal := { h1 := 75#8, h2 := 367#16, h3 := 0#8, h4 := 308#16, h5 := 50#16, h6 := 30#8 }
def exampleP : PresCal where
  p1 := 36477#16
  p2 := BitVec.ofInt 16 (-10685)
  p3 := 3024#16
  p4 := 2855#16
  p5 := 140#16
  p6 := BitVec.ofInt 16 (-7)
  p7 := 15500#16
  p8 := BitVec.ofInt 16 (-14600)
  p9 := 6000#16

/-- One field of the next state, where there is one. -/
def after {α : Type} (o : Outcome) (f : State → α) : Option α :=
  match o with
  | .next t => some (f t)
  | _ => none

/-! ### One step of each instruction, on the vectors of spec 95_test_vectors.md -/

/-- Dispatch (R150) and the STATUS bytes of programs P2 and P6. -/
theorem test_init : after (exec .init fresh) (fun t => (t.busy, t.phase)) = some (true, 0x01#6) := by decide
theorem test_init_refused : after (exec .init ready) statusView = some 0x2A#8 := by decide
theorem test_get : after (exec .get ready) (fun t => (t.busy, t.phase)) = some (true, 0x20#6) := by decide
theorem test_get_refused : after (exec .get fresh) statusView = some 0x28#8 := by decide
theorem test_idle : exec .idle fresh = .next fresh := rfl

/-- Configuration writes in the default order (program P1: 0xF5, 0xF4, 0xF2). -/
theorem test_wrcfg0 :
    after (exec .wrcfg0 (initAt 0x01#6)) (fun t => t.history) = some [.write 0x76#8 0xF5#8 0x10#8 true] := by decide
theorem test_wrcfg1 :
    after (exec .wrcfg1 (initAt 0x02#6)) (fun t => t.history) = some [.write 0x76#8 0xF4#8 0x24#8 true] := by decide
theorem test_wrcfg2 :
    after (exec .wrcfg2 (initAt 0x03#6)) (fun t => t.history) = some [.write 0x76#8 0xF2#8 0x01#8 true] := by decide

/-- The loads, on the standard image of section 3 of the vectors. -/
theorem test_ldt1 :
    after (exec .ldt1 { initAt 0x04#6 with sensor := [(0x88, 0x70#8), (0x89, 0x6B#8)] }) (fun t => t.calT.t1) =
      some 27504#16 := by decide
theorem test_ldt2 :
    after (exec .ldt2 { initAt 0x05#6 with sensor := [(0x8A, 0x43#8), (0x8B, 0x67#8)] }) (fun t => t.calT.t2) =
      some 26435#16 := by decide
theorem test_ldt3 :
    after (exec .ldt3 { initAt 0x06#6 with sensor := [(0x8C, 0x18#8), (0x8D, 0xFC#8)] }) (fun t => t.calT.t3.toInt) =
      some (-1000) := by decide
theorem test_ldp1 :
    after (exec .ldp1 { initAt 0x07#6 with sensor := [(0x8E, 0x7D#8), (0x8F, 0x8E#8)] }) (fun t => t.calP.p1.toNat) =
      some 36477 := by decide
theorem test_ldp2 :
    after (exec .ldp2 { initAt 0x08#6 with sensor := [(0x90, 0x43#8), (0x91, 0xD6#8)] }) (fun t => t.calP.p2.toInt) =
      some (-10685) := by decide
theorem test_ldp3 :
    after (exec .ldp3 { initAt 0x09#6 with sensor := [(0x92, 0xD0#8), (0x93, 0x0B#8)] }) (fun t => t.calP.p3.toInt) =
      some 3024 := by decide
theorem test_ldp4 :
    after (exec .ldp4 { initAt 0x0A#6 with sensor := [(0x94, 0x27#8), (0x95, 0x0B#8)] }) (fun t => t.calP.p4.toInt) =
      some 2855 := by decide
theorem test_ldp5 :
    after (exec .ldp5 { initAt 0x0B#6 with sensor := [(0x96, 0x8C#8), (0x97, 0x00#8)] }) (fun t => t.calP.p5.toInt) =
      some 140 := by decide
theorem test_ldp6 :
    after (exec .ldp6 { initAt 0x0C#6 with sensor := [(0x98, 0xF9#8), (0x99, 0xFF#8)] }) (fun t => t.calP.p6.toInt) =
      some (-7) := by decide
theorem test_ldp7 :
    after (exec .ldp7 { initAt 0x0D#6 with sensor := [(0x9A, 0x8C#8), (0x9B, 0x3C#8)] }) (fun t => t.calP.p7.toInt) =
      some 15500 := by decide
theorem test_ldp8 :
    after (exec .ldp8 { initAt 0x0E#6 with sensor := [(0x9C, 0xF8#8), (0x9D, 0xC6#8)] }) (fun t => t.calP.p8.toInt) =
      some (-14600) := by decide
theorem test_ldp9 :
    after (exec .ldp9 { initAt 0x0F#6 with sensor := [(0x9E, 0x70#8), (0x9F, 0x17#8)] }) (fun t => t.calP.p9.toInt) =
      some 6000 := by decide
theorem test_ldh1 :
    after (exec .ldh1 { initAt 0x10#6 with sensor := [(0xA1, 0x4B#8)] }) (fun t => t.calH.h1.toNat) = some 75 := by
  decide
theorem test_ldh2 :
    after (exec .ldh2 { initAt 0x11#6 with sensor := [(0xE1, 0x6F#8), (0xE2, 0x01#8)] }) (fun t => t.calH.h2.toInt) =
      some 367 := by decide
theorem test_ldh3 :
    after (exec .ldh3 { initAt 0x12#6 with sensor := [(0xE3, 0xFF#8)] }) (fun t => t.calH.h3.toNat) = some 255 := by
  decide
theorem test_ldh6 :
    after (exec .ldh6 { initAt 0x15#6 with sensor := [(0xE7, 0x80#8)] }) (fun t => t.calH.h6.toInt) = some (-128) := by
  decide

/-- The nibble test S5, and that LDH4 reads 0xE4 before 0xE5. -/
theorem test_ldh4 :
    after (exec .ldh4 { initAt 0x13#6 with sensor := [(0xE4, 0x12#8), (0xE5, 0x34#8), (0xE6, 0x56#8)] })
      (fun t => (t.calH.h4, t.history)) =
        some (0x124#16, [.read 0x76#8 0xE5#8 1 (some [0x34#8]), .read 0x76#8 0xE4#8 1 (some [0x12#8])]) := by decide
theorem test_ldh5 :
    after (exec .ldh5 { initAt 0x14#6 with sensor := [(0xE4, 0x12#8), (0xE5, 0x34#8), (0xE6, 0x56#8)] })
      (fun t => (t.calH.h5, t.history)) =
        some (0x563#16, [.read 0x76#8 0xE5#8 1 (some [0x34#8]), .read 0x76#8 0xE6#8 1 (some [0x56#8])]) := by decide

/-- A failing transaction: BusError, no coefficient written (R273). -/
theorem test_ldt1_fails :
    after (exec .ldt1 { initAt 0x04#6 with transport := [.fail] }) (fun t => (statusView t, t.phase, t.calT.t1)) =
      some (0x38#8, 0x00#6, 0#16) := by decide
theorem test_ldh4_second_read_fails :
    after (exec .ldh4 { initAt 0x13#6 with transport := [.ok, .fail], sensor := [(0xE4, 0x12#8)] })
      (fun t => (t.err, t.calH.h4, t.history.length)) = some (3#2, 0#16, 2) := by decide

/-- The ends of the two sequences: STATUS 0x02 and 0x06 of program P1. -/
theorem test_rdy : after (exec .rdy (initAt 0x16#6)) statusView = some 0x02#8 := by decide
theorem test_out : after (exec .out (getAt 0x27#6)) statusView = some 0x06#8 := by decide

theorem test_trig :
    after (exec .trig (getAt 0x20#6)) (fun t => t.history) = some [.write 0x76#8 0xF4#8 0x25#8 true] := by decide
theorem test_wait : after (exec .wait (getAt 0x21#6)) (fun t => (t.phase, t.busy)) = some (0x22#6, true) := by decide

/-- The burst of program P1, and row 8 of section 2.4. -/
theorem test_rdraw :
    after (exec .rdraw { getAt 0x22#6 with
      sensor := [(0xF7, 0x65#8), (0xF8, 0x5A#8), (0xF9, 0xC0#8), (0xFA, 0x7E#8), (0xFB, 0xED#8), (0xFC, 0x00#8),
        (0xFD, 0x75#8), (0xFE, 0x30#8)] }) (fun t => t.rb) =
      some #v[0x65#8, 0x5A#8, 0xC0#8, 0x7E#8, 0xED#8, 0x00#8, 0x75#8, 0x30#8] := by decide
theorem test_unpk :
    after (exec .unpk { getAt 0x23#6 with rb := #v[0x12#8, 0x34#8, 0x56#8, 0x78#8, 0x9A#8, 0xBC#8, 0xDE#8, 0xF0#8] })
      (fun t => (t.adcP, t.adcT, t.adcH)) = some (0x12345#20, 0x789AB#20, 0xDEF0#16) := by decide
theorem test_unpk_discards_low_nibbles :
    after (exec .unpk { getAt 0x23#6 with rb := #v[0#8, 0#8, 0x0F#8, 0#8, 0#8, 0x0F#8, 0#8, 0#8] })
      (fun t => (t.adcP, t.adcT, t.adcH)) = some (0#20, 0#20, 0#16) := by decide

/-- Vectors T1 (the golden test S2) and T6 (floor, not truncation). -/
theorem test_cmpt_golden :
    after (exec .cmpt { getAt 0x24#6 with adcT := 519888#20, calT := exampleT })
      (fun t => (t.tfine.toInt, t.tOut.toInt, t.tfv)) = some (128422, 2508, true) := by decide
theorem test_cmpt_floor :
    after (exec .cmpt { getAt 0x24#6 with adcT := 300000#20, calT := exampleT })
      (fun t => (t.tfine.toInt, t.tOut.toInt)) = some (-227131, -4436) := by decide

/-- Vectors H1 and H10. -/
theorem test_cmph :
    after (exec .cmph { getAt 0x25#6 with adcH := 30000#16, tfine := 128422#32, calH := exampleH })
      (fun t => t.hOut.toNat) = some 58936 := by decide
theorem test_cmph_negative :
    after (exec .cmph { getAt 0x25#6 with adcH := 20000#16, tfine := BitVec.ofInt 32 (-227131), calH := exampleH })
      (fun t => t.hOut.toNat) = some 6020 := by decide
/-- Vectors H8 (wraps, high clamp) and H5 (wraps, low clamp). -/
theorem test_humidity_wraps_high :
    (humidityStage 25000#16 128422#32 { exampleH with h4 := 2048#16 }).toNat = 102400 := by decide
theorem test_humidity_wraps_low :
    (humidityStage 65535#16 128422#32
      { h1 := 0#8, h2 := 32767#16, h3 := 255#8, h4 := 0#16, h5 := 0#16, h6 := 127#8 }).toNat = 0 := by decide

/-- Vectors P1 and P12 (the two forms of the division). -/
theorem test_cmpp :
    after (exec .cmpp { getAt 0x26#6 with adcP := 415148#20, tfine := 128422#32, calP := exampleP })
      (fun t => t.pOut.toNat) = some 100656 := by decide
theorem test_cmpp_divide_first :
    after (exec .cmpp { getAt 0x26#6 with adcP := 315698#20, tfine := 128422#32, calP := exampleP })
      (fun t => t.pOut.toNat) = some 117873 := by decide
/-- Vectors P4 (guard), P9 (negative divisor) and P7 (wrapped difference). -/
theorem test_pressure_guard :
    pressureStage 415148#20 128422#32 { exampleP with p1 := 1#16 } = 0#32 := by decide
theorem test_pressure_negative_divisor :
    (pressureStage 415148#20 128422#32 { exampleP with p1 := 65535#16, p2 := 32767#16, p3 := 32767#16 }).toNat =
      968 := by decide
theorem test_pressure_wrapped_difference :
    (pressureStage 1048575#20 128422#32 exampleP).toNat = 231379 := by decide

/-- The ordering property S6: vectors H1, H2 and P1, P2. -/
theorem test_results_follow_fine_temperature :
    (humidityStage 30000#16 100000#32 exampleH).toNat = 58711 ∧
      (pressureStage 415148#20 100000#32 exampleP).toNat = 99802 := by decide

/-- The events of a host program (R111, R112). -/
theorem test_measure_is_init_get : programEvents [.measure] = programEvents [.init, .get] := by decide
theorem test_fail_directive : failNth 2 [] = [.ok, .fail] := by decide

/-- `withFetchWord`: the very next step runs the word's instruction. -/
theorem test_fetch_command :
    after (step (State.withFetchWord fresh 8 0x01)) (fun t => (t.busy, t.phase)) = some (true, 0x01#6) := by decide
theorem test_fetch_phase :
    after (step (State.withFetchWord fresh 8 0x24)) (fun t => (t.tfv, t.phase)) = some (true, 0x25#6) := by decide
theorem test_fetch_idle :
    after (step (State.withFetchWord fresh 8 0x00)) (fun t => (t.busy, t.phase)) = some (false, 0x00#6) := by decide

/-! ### Witnesses: for each statement, states and operands that meet its hypotheses -/

/-- A GET state in which all three results have been computed from an all-zero burst and all-zero coefficients. -/
def computed : State :=
  { getAt 0x27#6 with
    tfine := fineOf fresh.calT fresh.rb
    tOut := tOutOf fresh.calT fresh.rb
    hOut := hOutOf fresh.calT fresh.calH fresh.rb
    pOut := pOutOf fresh.calT fresh.calP fresh.rb }

/-- The same after OUT. -/
def published : State := { computed with busy := false, phase := 0x00#6, tfv := false, rvalid := true }

theorem fresh_control : ControlInv fresh := by
  refine ⟨?_, ?_, ?_, ?_, ?_⟩ <;> simp [fresh, State.reset]
theorem ready_control : ControlInv ready := by
  refine ⟨?_, ?_, ?_, ?_, ?_⟩ <;> simp [ready, fresh, State.reset]
theorem init_first_control : ControlInv (initAt 0x01#6) := by
  refine ⟨?_, ?_, ?_, ?_, ?_⟩ <;> simp [initAt, fresh, State.reset, initPhase]
theorem init_last_load_control : ControlInv (initAt 0x15#6) := by
  refine ⟨?_, ?_, ?_, ?_, ?_⟩ <;> simp [initAt, fresh, State.reset, initPhase]
theorem out_control : ControlInv computed := by
  refine ⟨?_, ?_, ?_, ?_, ?_⟩ <;> simp [computed, getAt, fresh, State.reset, getPhase]
theorem published_control : ControlInv published := by
  refine ⟨?_, ?_, ?_, ?_, ?_⟩ <;> simp [published, computed, getAt, fresh, State.reset]
theorem out_data : DataInv computed := by
  refine ⟨?_, ?_, ?_, ?_, ?_, ?_, ?_, ?_⟩ <;> simp [computed, getAt, fresh, State.reset]
  all_goals decide
theorem published_data : DataInv published := by
  refine ⟨?_, ?_, ?_, ?_, ?_, ?_, ?_, ?_⟩ <;> simp [published, computed, getAt, fresh, State.reset]

theorem witness_ResetEventForgetsData :
    ∃ (s : State) (rest : List Event), s.script = .reset :: rest :=
  ⟨{ computed with script := [.reset] }, [], rfl⟩

theorem witness_EveryCodeHasOneMeaning :
    decode (.cmd8 0x01#8) = .ok .init ∧ decode (.ph6 0x27#6) = .ok .out ∧ (0x00#8 ≠ 0x01#8 ∧ 0x00#8 ≠ 0x02#8) ∧
      (0x17 ≤ (0x17#6).toNat ∧ (0x1F#6).toNat ≤ 0x1F) ∧ 0x28 ≤ (0x28#6).toNat := by decide

theorem witness_StepRunsTheDecodedInstruction :
    ((initAt 0x01#6).busy = true ∧ decodePhase (initAt 0x01#6).phase = .ok .wrcfg0 ∧ (initAt 0x01#6).script = []) ∧
      ({ initAt 0x01#6 with script := [.command 0x02#8] } : State).busy = true ∧
      ({ initAt 0x01#6 with script := [.awaitIdle] } : State).script = [.awaitIdle] ∧
      ({ initAt 0x01#6 with script := [.core] } : State).script = [.core] ∧
      (fresh.busy = false ∧ ({ fresh with script := [.command 0x01#8] } : State).script = [.command 0x01#8] ∧
        decodeCommand 0x01#8 = .ok .init) := by decide

theorem witness_IdleChangesNothing :
    fresh.busy = false ∧ fresh.script = [] ∧ ({ fresh with script := [.core] } : State).busy = false := by decide

/-- One word for each arm of dispatch, and a busy CORE with a command waiting. -/
theorem witness_DispatchFollowsTheTable :
    (fresh.busy = false ∧ fresh.lc = .uninit) ∧ (ready.busy = false ∧ ready.lc = .ready) ∧
      ({ fresh with script := [.command 0xFF#8] } : State).script = [.command 0xFF#8] ∧
      (let s := { initAt 0x16#6 with script := [.command 0x02#8] }
       s.busy = true ∧ after (step s) (fun t => t.script) = some s.script) := by decide

theorem witness_InitAndGetAreAccepted :
    (fresh.busy = false ∧ fresh.lc = .uninit) ∧ (ready.busy = false ∧ ready.lc = .ready) := by decide

theorem witness_RefusedCommandsChangeOnlyErrorState :
    (let s := { fresh with script := [.command 0x03#8] }
     s.busy = false ∧ s.script = [.command 0x03#8] ∧ 0x03#8 ≠ 0x01#8 ∧ 0x03#8 ≠ 0x02#8) ∧
      (let s := { ready with script := [.command 0x01#8] }
       s.busy = false ∧ s.script = [.command 0x01#8] ∧ s.lc = .ready) ∧
      (let s := { fresh with script := [.command 0x02#8] }
       s.busy = false ∧ s.script = [.command 0x02#8] ∧ s.lc = .uninit) := by decide

/-- The transport answers Ok, and Fail, for every statement of a transaction. -/
theorem witness_transactions :
    nextAnswer (initAt 0x01#6) = .ok ∧ nextAnswer { initAt 0x01#6 with transport := [.fail] } = .fail ∧
      nextAnswer (getAt 0x20#6) = .ok ∧ nextAnswer { getAt 0x20#6 with transport := [.fail] } = .fail := by decide
theorem witness_ConfigurationWritesOfInit :
    nextAnswer (initAt 0x01#6) = .ok ∧ nextAnswer { initAt 0x01#6 with transport := [.fail] } = .fail := by decide
theorem witness_TriggerWritesTheForcedByte :
    nextAnswer (getAt 0x20#6) = .ok ∧ nextAnswer { getAt 0x20#6 with transport := [.fail] } = .fail := by decide
theorem witness_TemperatureLoads :
    nextAnswer (initAt 0x04#6) = .ok ∧ nextAnswer { initAt 0x04#6 with transport := [.fail] } = .fail := by decide
theorem witness_PressureLoads :
    nextAnswer (initAt 0x07#6) = .ok ∧ nextAnswer { initAt 0x0F#6 with transport := [.fail] } = .fail := by decide
theorem witness_HumidityLoads :
    nextAnswer (initAt 0x10#6) = .ok ∧ nextAnswer { initAt 0x15#6 with transport := [.fail] } = .fail := by decide
theorem witness_NibbleLoads :
    (nextAnswer (initAt 0x13#6) = .ok ∧
        nextAnswer (afterRead (initAt 0x13#6) 0xE4#8 [drawByte (initAt 0x13#6).sensor (initAt 0x13#6).draws 0xE4]) =
          .ok) ∧
      (let s := { initAt 0x14#6 with transport := [.ok, .fail] }
       nextAnswer s = .ok ∧ nextAnswer (afterRead s 0xE6#8 [drawByte s.sensor s.draws 0xE6]) = .fail) ∧
      nextAnswer { initAt 0x13#6 with transport := [.fail] } = .fail := by decide
theorem witness_BurstFillsTheBuffer :
    nextAnswer (getAt 0x22#6) = .ok ∧ nextAnswer { getAt 0x22#6 with transport := [.fail] } = .fail := by decide

theorem witness_CmphFollowsTheFormula : (getAt 0x25#6).tfv = true := by decide
theorem witness_CmppFollowsTheFormula : (getAt 0x26#6).tfv = true := by decide
theorem witness_StagesRunOnAFreeFineTemperature : ready.tfv = false := by decide

theorem witness_ZeroGuardGivesZero :
    (getAt 0x26#6).busy = true ∧ (getAt 0x26#6).phase = 0x26#6 ∧ (getAt 0x26#6).tfv = true ∧
      (getAt 0x26#6).script = [] ∧
      refPressureDivisor (getAt 0x26#6).tfine.toInt (getAt 0x26#6).calP.p1.toNat (getAt 0x26#6).calP.p2.toInt
        (getAt 0x26#6).calP.p3.toInt = 0 := by decide

/-- Both sides of the boundary 2^31 of the dividend, and a negative divisor. -/
theorem witness_TwoWayDivision :
    (1#32 ≠ 0#32 ∧ (2147483647#32).toNat < 2147483648) ∧ 2147483648 ≤ (2147483648#32).toNat ∧
      2147483648 ≤ (2147483648#32).toNat / (1#32).toNat ∧
      (BitVec.ofInt 32 (-65512) ≠ 0#32 ∧ (BitVec.ofInt 32 (-65512)).toInt < 0) := by decide

/-- The differences 687194, 687195 and 1374389, at the ends of the intervals of R246. -/
theorem witness_DividendBoundary :
    (pressureDifference 361382#20 0#32).toNat = 687194 ∧ (pressureDifference 361381#20 0#32).toNat = 687195 ∧
      (pressureDifference 0#20 (BitVec.ofInt 32 (-325813 * 4096))).toNat = 1374389 := by decide

theorem witness_SignedPrimitivesWrap :
    (1 ≤ 1 ∧ 31 ≤ 31) ∧ (-2147483648 : Int) ≤ -2147483648 ∧ (2147483647 : Int) ≤ 2147483647 := by decide
theorem witness_ArithmeticShiftIsFloor : (asr32 (BitVec.ofInt 32 (-7)) 2).toInt = -2 ∧ 1 ≤ 2 ∧ 2 ≤ 31 := by decide
theorem witness_UnsignedPrimitivesWrap : (1 ≤ 31 ∧ 31 ≤ 31) ∧ 36471#32 ≠ 0#32 := by decide

/-- Rounding at the largest operand that does not wrap, and the clamp at both bounds and beyond them. -/
theorem witness_RoundAndClamp :
    (2147483519#32).toInt + 2 ^ (8 - 1) ≤ 2147483647 ∧ (BitVec.ofInt 32 (-1)).toInt < 0 ∧
      419430400 < (419430401#32).toInt ∧ 0 ≤ (0#32).toInt ∧ (419430400#32).toInt ≤ 419430400 := by decide

theorem witness_HostReadsHaveNoSideEffect :
    ({ fresh with script := [.readStatus] } : State).script = [.readStatus] ∧
      (let s := { published with script := [.readResult .hOut] }
       s.script = [.readResult .hOut] ∧ s.busy = false ∧ s.rvalid = true) ∧
      (let s := { computed with script := [.readResult .tOut] }
       s.script = [.readResult .tOut] ∧ s.busy = true) ∧
      ({ fresh with script := [.readResult .pOut] } : State).rvalid = false := by decide

theorem witness_ReadingIsExactAndInRange :
    published.busy = false ∧ published.rvalid = true ∧ computed.busy = true ∧ ControlInv published ∧
      DataInv published ∧ (reading published).isSome = true :=
  ⟨rfl, rfl, rfl, published_control, published_data, rfl⟩

theorem witness_PhaseMovesToItsSuccessor :
    encode .ldh4 = .ph6 0x13#6 ∧ 0x13#6 ≠ 0x00#6 ∧ encode .out = .ph6 0x27#6 ∧ 0x27#6 ≠ 0x00#6 := by decide

theorem witness_OnlyTheTableWritesRegisters : ∃ t : State, exec .unpk (getAt 0x23#6) = .next t := ⟨_, rfl⟩
theorem witness_FlagsChangeOnlyAsListed : ∃ t : State, exec .out computed = .next t := ⟨_, rfl⟩
theorem witness_OnlyConfigurationWritesTouchMemory :
    (∃ t : State, exec .wrcfg0 (initAt 0x01#6) = .next t) ∧
      0x88 ≠ (cfgAddr (cfgFirst (initAt 0x01#6).params.cfgOrder)).toNat ∧ nextAnswer (initAt 0x01#6) = .ok :=
  ⟨⟨_, rfl⟩, by decide, rfl⟩

theorem witness_StepKeepsControl :
    ControlInv (initAt 0x01#6) ∧ ∃ t : State, step (initAt 0x01#6) = .next t :=
  ⟨init_first_control, _, rfl⟩
theorem witness_StepKeepsData :
    ControlInv computed ∧ DataInv computed ∧ ∃ t : State, step computed = .next t ∧ t.rvalid = true :=
  ⟨out_control, out_data, _, rfl, rfl⟩
theorem witness_StepKeepsBus :
    BusInv (initAt 0x01#6) ∧ ∃ t : State, step (initAt 0x01#6) = .next t :=
  ⟨⟨rfl, rfl, rfl⟩, _, rfl⟩

/-- The unused codes at the ends of the two gaps. -/
theorem witness_SoundStatesAlwaysStep :
    ControlInv computed ∧
      ((initAt 0x17#6).busy = true ∧ (initAt 0x17#6).script = [] ∧ 0x17 ≤ (initAt 0x17#6).phase.toNat ∧
        (initAt 0x17#6).phase.toNat ≤ 0x1F) ∧
      0x28 ≤ (initAt 0x28#6).phase.toNat ∧ 0x28 ≤ (initAt 0x3F#6).phase.toNat :=
  ⟨out_control, by decide, by decide, by decide⟩

theorem witness_LifecycleMovesOnlyByRdyAndReset :
    (∃ t : State, step (initAt 0x16#6) = .next t ∧ t.lc ≠ (initAt 0x16#6).lc) ∧
      ∃ t : State, step { ready with script := [.reset] } = .next t ∧ t.lc ≠ ready.lc :=
  ⟨⟨_, rfl, by decide⟩, ⟨_, rfl, by decide⟩⟩

theorem witness_CoefficientsAreImmutableWhenReady :
    ControlInv computed ∧ computed.lc = .ready ∧ (∀ rest, computed.script ≠ .reset :: rest) ∧
      ∃ t : State, step computed = .next t :=
  ⟨out_control, rfl, fun _ h => by simp [computed, getAt, fresh, State.reset] at h, _, rfl⟩

/-- A micro-operation that fails, a refused command, and a state with the flag set already. -/
theorem witness_StickyErrorFlag :
    (∃ t : State, step { initAt 0x04#6 with transport := [.fail] } = .next t ∧ t.busy = false ∧ t.err ≠ 0#2) ∧
      (∃ t : State, step { fresh with script := [.command 0x02#8] } = .next t ∧ t.busy = false ∧ t.err ≠ 0#2) ∧
      ∃ t : State, step { initAt 0x16#6 with esticky := true } = .next t :=
  ⟨⟨_, rfl, rfl, by decide⟩, ⟨_, rfl, rfl, by decide⟩, ⟨_, rfl⟩⟩

/-- Each error once, and an end without error after one. -/
theorem witness_ErrorsComeFromTheirCauses :
    (∃ t : State, step { fresh with script := [.command 0x00#8] } = .next t ∧ t.err ≠ fresh.err ∧ t.err = 1#2) ∧
      (∃ t : State, step { fresh with script := [.command 0x02#8] } = .next t ∧ t.err ≠ fresh.err ∧ t.err = 2#2) ∧
      (∃ t : State, step { initAt 0x04#6 with transport := [.fail] } = .next t ∧ t.err ≠ fresh.err ∧ t.err = 3#2) ∧
      ∃ t : State, step { initAt 0x16#6 with err := 2#2 } = .next t ∧ t.err ≠ 2#2 ∧ t.err = 0#2 :=
  ⟨⟨_, rfl, by decide, rfl⟩, ⟨_, rfl, by decide, rfl⟩, ⟨_, rfl, by decide, rfl⟩, ⟨_, rfl, by decide, rfl⟩⟩

theorem witness_SensorAndTransportEvents :
    (let s := { fresh with script := [.sensor 0x88#8 (some 0x70#8)], sensor := [(0xF4, 1#8)] }
     s.script = [.sensor 0x88#8 (some 0x70#8)] ∧ s.sensor.wf = true) ∧
      ({ fresh with script := [.failNth 2] } : State).script = [.failNth (1 + 1)] ∧
      ({ fresh with script := [.hang] } : State).script = [.hang] := by decide

/-- A sensor that has fixed every register to zero. -/
def zeroSensor : Memory := (List.range 256).map (fun a => (a, 0#8))

theorem zeroSensor_lookup : ∀ a, a < 256 → zeroSensor.lookup a = some 0#8 := by
  set_option maxRecDepth 4000 in decide

theorem zeroSensor_lists (s : State) (r : Nat → Bool) (h : s.sensor = zeroSensor) (hr : ∀ a, r a = true → a < 256) :
    Lists s r (fun _ => 0#8) := by
  intro a ha
  rw [h]
  exact zeroSensor_lookup a (hr a ha)

/-- The INIT of the headline statement can start. -/
def initStart : State := { fresh with script := [.command 0x01#8], sensor := zeroSensor }

/-- The GET of the headline statements can start. -/
def getStart : State := { ready with script := [.command 0x02#8], sensor := zeroSensor }

theorem allOk_nil {s : State} (h : s.transport = []) : AllOk s := by
  intro x hx
  rw [h] at hx
  cases hx

theorem witness_InitLoadsTheCalibration :
    initStart.busy = false ∧ initStart.lc = .uninit ∧ initStart.script = [.command 0x01#8] ∧ AllOk initStart ∧
      Lists initStart calibrationRegister (fun _ => 0#8) := by
  refine ⟨rfl, rfl, rfl, allOk_nil rfl, zeroSensor_lists _ _ rfl fun a h => ?_⟩
  simp [calibrationRegister] at h
  omega

theorem witness_GetComputesTheReading :
    getStart.busy = false ∧ getStart.lc = .ready ∧ getStart.script = [.command 0x02#8] ∧ AllOk getStart ∧
      Lists getStart measurementRegister (fun _ => 0#8) := by
  refine ⟨rfl, rfl, rfl, allOk_nil rfl, zeroSensor_lists _ _ rfl fun a h => ?_⟩
  simp [measurementRegister] at h
  omega

/-- Two GETs from states that differ in what the block remembers. -/
theorem witness_GetIsAPureFunction :
    (let s := { getStart with rvalid := true, esticky := true, hOut := 7#32 }
     s.busy = false ∧ s.lc = .ready ∧ s.script = [.command 0x02#8] ∧ AllOk s ∧
      Lists s measurementRegister (fun _ => 0#8) ∧ SameCal s getStart) ∧
      AllOk getStart ∧ Lists getStart measurementRegister (fun _ => 0#8) := by
  obtain ⟨_, _, _, h4, h5⟩ := witness_GetComputesTheReading
  exact ⟨⟨rfl, rfl, rfl, allOk_nil rfl, h5, rfl, rfl, rfl⟩, h4, h5⟩

theorem witness_FailedBurstEndsTheGet :
    let s := { ready with script := [.command 0x02#8], transport := [.ok, .fail] }
    s.busy = false ∧ s.lc = .ready ∧ s.script = [.command 0x02#8] ∧ s.transport = .ok :: .fail :: [] :=
  ⟨rfl, rfl, rfl, rfl⟩

/-- The first and the last micro-operation of INIT that make a transaction. -/
theorem witness_FailedInitCanBeRepeated :
    (let s := { initAt 0x01#6 with transport := [.fail] }
     ControlInv s ∧ s.busy = true ∧ 0x01#6 ≤ s.phase ∧ s.phase ≤ 0x15#6 ∧ s.script = [] ∧ nextAnswer s = .fail) ∧
      (let s := { initAt 0x15#6 with transport := [.fail] }
       ControlInv s ∧ s.busy = true ∧ 0x01#6 ≤ s.phase ∧ s.phase ≤ 0x15#6 ∧ s.script = [] ∧ nextAnswer s = .fail) := by
  refine ⟨⟨?_, rfl, by decide, by decide, rfl, rfl⟩, ⟨?_, rfl, by decide, by decide, rfl, rfl⟩⟩
  · obtain ⟨a, b, c, d, e⟩ := init_first_control
    exact ⟨a, b, c, d, e⟩
  · obtain ⟨a, b, c, d, e⟩ := init_last_load_control
    exact ⟨a, b, c, d, e⟩

end Sys2Proof.Tests
end

/-! PROOF. The operand forms keep their value when they are widened, and the two reinterpretations read the same bits
modulo 2^32 (spec 10_state.md R25, R27; 00_scope.md R9; R127). -/

namespace Sys2Proof.Machine

/-- Zero extension to a longer word leaves the sign bit clear, so the signed value is the unsigned one. -/
theorem toInt_setWidth_of_lt {n m : Nat} (h : n < m) (v : BitVec n) : (v.setWidth m).toInt = v.toNat := by
  rw [← BitVec.setWidth'_eq h.le]
  exact BitVec.toInt_setWidth'_of_lt h

@[simp] theorem toInt_widenU8 (v : Byte) : (widenU8 v).toInt = v.toNat := toInt_setWidth_of_lt (by decide) v

@[simp] theorem toInt_widenU16 (v : Half) : (widenU16 v).toInt = v.toNat := toInt_setWidth_of_lt (by decide) v

@[simp] theorem toInt_widenU20 (v : Code20) : (widenU20 v).toInt = v.toNat := toInt_setWidth_of_lt (by decide) v

@[simp] theorem toInt_widenS8 (v : Byte) : (widenS8 v).toInt = v.toInt :=
  BitVec.toInt_signExtend_of_le (by decide)

@[simp] theorem toInt_widenS16 (v : Half) : (widenS16 v).toInt = v.toInt :=
  BitVec.toInt_signExtend_of_le (by decide)

/-- `as_s32` (R127): the signed value of a word is its unsigned value wrapped. -/
theorem toInt_asS32 (a : Word) : (asS32 a).toInt = wrapS a.toNat := BitVec.toInt_eq_toNat_bmod a

/-- `as_u32` (R127): the signed value is congruent to the unsigned one, which is already below 2^32. -/
theorem toNat_asU32 (a : Word) : ((asU32 a).toNat : Int) = wrapU a.toInt := by
  have hlt : (a.toNat : Int) < 4294967296 := by exact_mod_cast a.isLt
  calc (a.toNat : Int)
      = a.toNat % 4294967296 := (Int.emod_eq_of_lt (Int.natCast_nonneg _) hlt).symm
    _ = Int.bmod a.toNat 4294967296 % 4294967296 := Int.bmod_emod.symm
    _ = wrapU a.toInt := congrArg wrapU (toInt_asS32 a).symm

/-- Settles O33: one lemma per operand form and per reinterpretation. -/
theorem operandsKeepTheirValue : Obligations.OperandsKeepTheirValue :=
  ⟨fun v => ⟨toInt_widenU8 v, toInt_widenS8 v⟩, fun v => ⟨toInt_widenU16 v, toInt_widenS16 v⟩, toInt_widenU20,
    fun a => ⟨toNat_asU32 a, toInt_asS32 a⟩⟩

end Sys2Proof.Machine

/-! PROOF. ESTICKY records every command that ended with an error (spec 10_state.md R39): an instruction either enters
the error of `raise`, which sets the flag, or keeps the flag and ends no command with an error. -/

namespace Sys2Proof.Machine

/-- The step from s to t ends a command, a refused one included, with an error. -/
def EndsWithError (s t : State) : Prop :=
  (s.busy = true ∧ t.busy = false ∧ t.err ≠ 0#2) ∨
    (s.busy = false ∧ t.busy = false ∧ t.err ≠ 0#2 ∧ ∃ w rest, s.script = .command w :: rest)

theorem not_endsWithError_of_busy {s t : State} (h : t.busy = true) : ¬ EndsWithError s t := by
  simp [EndsWithError, h]

theorem not_endsWithError_of_err {s t : State} (h : t.err = 0#2) : ¬ EndsWithError s t := by
  simp [EndsWithError, h]

/-- Where BUSY is kept, only a host that presents a word to the idle port could see a command end. -/
theorem not_endsWithError_of_busy_eq {s t : State} (h : t.busy = s.busy)
    (hc : ∀ w rest, s.script ≠ .command w :: rest) : ¬ EndsWithError s t := by
  rintro (⟨hs, ht, -⟩ | ⟨-, -, -, w, rest, hw⟩)
  · rw [h, hs] at ht; cases ht
  · exact hc w rest hw

@[simp] theorem sensorActs_busy (a : Byte) (v : Option Byte) (s : State) : (sensorActs a v s).busy = s.busy := by
  obtain ⟨m, e⟩ := sensorActs_eq a v s
  rw [e]

@[simp] theorem sensorActs_esticky (a : Byte) (v : Option Byte) (s : State) :
    (sensorActs a v s).esticky = s.esticky := by
  obtain ⟨m, e⟩ := sensorActs_eq a v s
  rw [e]

@[simp] theorem atTurn_busy (s : State) : (atTurn s).busy = s.busy := by
  obtain ⟨l, e⟩ := atTurn_eq s
  rw [e]

@[simp] theorem atTurn_esticky (s : State) : (atTurn s).esticky = s.esticky := by
  obtain ⟨l, e⟩ := atTurn_eq s
  rw [e]

/-- An instruction sets ESTICKY, or it keeps the flag and then BUSY stays, rises, or falls with `ERR = 0`. -/
theorem Ran.esticky_set_or_kept {s t : State} {i : Instr} (h : Ran s i t) :
    t.esticky = true ∨ (t.esticky = s.esticky ∧ (t.busy = s.busy ∨ t.busy = true ∨ t.err = 0#2)) := by
  cases h with
  | initRefused | getRefused | wrcfg0Failed | wrcfg1Failed | wrcfg2Failed | ldt1Failed | ldt2Failed | ldt3Failed
  | ldp1Failed | ldp2Failed | ldp3Failed | ldp4Failed | ldp5Failed | ldp6Failed | ldp7Failed | ldp8Failed
  | ldp9Failed | ldh1Failed | ldh2Failed | ldh3Failed | ldh4Failed | ldh4SecondFailed | ldh5Failed
  | ldh5SecondFailed | ldh6Failed | trigFailed | rdrawFailed =>
    exact .inl (raise_esticky _ _)
  | init | get => exact .inr ⟨by simp, .inr (.inl (by simp))⟩
  | rdy | out => exact .inr ⟨by simp, .inr (.inr (endCommand_err _))⟩
  | _ => exact .inr ⟨by simp, .inl (by simp)⟩

/-- A step without reset sets ESTICKY, or it keeps the flag and ends no command with an error. -/
theorem step_esticky_set_or_kept {s t : State} (h : step s = .next t) (hr : ∀ rest, s.script ≠ .reset :: rest) :
    t.esticky = true ∨ (t.esticky = s.esticky ∧ ¬ EndsWithError s t) := by
  rcases step_ran h with ⟨hb, -, i, -, ran⟩ | ⟨hb, hm, rfl⟩ | ⟨w, rest, -, hb, hd⟩ | ⟨rest, hs, -, rfl⟩ |
    ⟨rest, hs, -⟩ | ⟨rest, hs, rfl⟩ | ⟨r, rest, hs, rfl⟩ | ⟨a, v, rest, hs, rfl⟩ | ⟨k, rest, hs, rfl⟩ |
    ⟨hs, rfl⟩ | ⟨e, rest, hs, rfl⟩
  -- A micro-operation of the running command (R154).
  case inl =>
    rcases ran.esticky_set_or_kept with hset | ⟨hkept, hend⟩
    · exact .inl hset
    · have hok : t.busy = true ∨ t.err = 0#2 := by simpa [hb] using hend
      exact .inr ⟨by simpa using hkept, hok.elim not_endsWithError_of_busy not_endsWithError_of_err⟩
  -- CORE idles: BUSY is 0, so no host's word was taken.
  case inr.inl =>
    have hc : ∀ w rest, s.script ≠ .command w :: rest := fun w rest hs => by simp [coreMoves, hs, hb] at hm
    exact .inr ⟨by simp, not_endsWithError_of_busy_eq (by simp) hc⟩
  -- Dispatch (R150): accepted with BUSY = 1, or refused through `raise`.
  case inr.inr.inl =>
    rcases presentCommand_ran (by simpa using hb) hd with ⟨-, -, rfl⟩ | ⟨-, -, rfl⟩ | ⟨-, rfl⟩ | ⟨-, -, rfl⟩
    · exact .inr ⟨by simp, not_endsWithError_of_busy (by simp)⟩
    · exact .inr ⟨by simp, not_endsWithError_of_busy (by simp)⟩
    · exact .inl (raise_esticky _ _)
    · exact .inl (raise_esticky _ _)
  case inr.inr.inr.inr.inl => exact absurd hs (hr rest)
  -- The acts of the environment that are neither a command nor a reset leave BUSY and ESTICKY alone.
  all_goals exact .inr ⟨by simp, not_endsWithError_of_busy_eq (by simp) (by simp [hs])⟩

/-- Settles O49: the flag is set by the step itself, or kept by a step that ends no command with an error. -/
theorem stickyErrorFlag : Obligations.StickyErrorFlag := by
  intro s t h hr
  rcases step_esticky_set_or_kept h hr with hset | ⟨hkept, hend⟩
  · exact ⟨fun _ => hset, fun _ => hset⟩
  · exact ⟨fun he => absurd he hend, hkept.trans⟩

end Sys2Proof.Machine

/-! PROOF. A command word that dispatch refuses enters the error of `raise` in the same step and leaves everything else
as it was (spec 30_encoding.md R92; 60_exceptions.md R271, R272). -/

namespace Sys2Proof.Machine

/-- The words that dispatch refuses: a reserved one (R92), INIT while READY, GET while UNINIT (R150). -/
def RefusedCommand (w : Byte) (lc : Lifecycle) : Prop :=
  (w ≠ 0x01#8 ∧ w ≠ 0x02#8) ∨ (w = 0x01#8 ∧ lc = .ready) ∨ (w = 0x02#8 ∧ lc = .uninit)

/-- The error that dispatch raises for a word it refuses: decoding comes before the lifecycle check (R278). -/
def refusalError (w : Byte) : CmdError :=
  if w = 0x01#8 ∨ w = 0x02#8 then .sequenceError else .illegalCommand

theorem refusalError_of_reserved {w : Byte} (h : w ≠ 0x01#8 ∧ w ≠ 0x02#8) : refusalError w = .illegalCommand :=
  if_neg (not_or.mpr h)

theorem refusalError_of_legal {w : Byte} (h : w = 0x01#8 ∨ w = 0x02#8) : refusalError w = .sequenceError :=
  if_pos h

/-- A word presented to the idle command port is dispatched in the same step (R150). -/
theorem step_command_of_idle {s : State} {w : Byte} {rest : List Event} (hb : s.busy = false)
    (hs : s.script = .command w :: rest) : step s = presentCommand w (dropEvent s) := by
  simp [step, sequencerStep, hs, hb]

theorem presentCommand_of_refused {w : Byte} {s : State} (hb : s.busy = false) (h : RefusedCommand w s.lc) :
    presentCommand w s = .next (raise (refusalError w) s) := by
  rcases presentCommand_cases w s hb with ⟨hw, hl, -⟩ | ⟨hw, hl, -⟩ | ⟨hw, e⟩ | ⟨h1, h2, e⟩
  -- The two accepting arms of dispatch contradict the refusal.
  · simp [RefusedCommand, hw, hl] at h
  · simp [RefusedCommand, hw, hl] at h
  · rw [e, refusalError_of_legal (hw.imp And.left And.left)]
  · rw [e, refusalError_of_reserved ⟨h1, h2⟩]

/-- Settles O9: the refused word's step is `raise` with the word's error, whose frame is that of Laws/State. -/
theorem refusedCommandsChangeOnlyErrorState : Obligations.RefusedCommandsChangeOnlyErrorState := by
  intro s w rest hb hs h
  have hstep : step s = .next (raise (refusalError w) (dropEvent s)) :=
    (step_command_of_idle hb hs).trans (presentCommand_of_refused (by simpa using hb) (by rwa [dropEvent_lc]))
  refine ⟨_, hstep, by simp [NoTransaction], by simp [SameCal], by simp [SameSample], by simp [SameResults],
    by simp [SameMemory], by simp, by simp, by simp, by simp, by simp [hs], by simp, by simp, by simp, by simp,
    fun hreserved => ?_, fun hlegal => ?_⟩
  · simp [refusalError_of_reserved hreserved, errorCode]
  · simp [refusalError_of_legal hlegal, errorCode]

end Sys2Proof.Machine

/-! PROOF. The assembled coefficients and raw codes are their bytes and nibbles side by side (spec 30_encoding.md R97,
R100 to R104). -/

namespace Sys2Proof.Machine

theorem toNat_append_eq_add {n m : Nat} (x : BitVec n) (y : BitVec m) :
    (x ++ y).toNat = x.toNat * 2 ^ m + y.toNat := by
  rw [BitVec.toNat_append, ← Nat.shiftLeft_add_eq_or_of_lt y.isLt, Nat.shiftLeft_eq]

theorem toNat_lowNibble (b : Byte) : (b.extractLsb' 0 4).toNat = b.toNat % 16 := by simp

theorem toNat_highNibble (b : Byte) : (b.extractLsb' 4 4).toNat = b.toNat / 16 := by
  have hlt := b.isLt
  rw [BitVec.extractLsb'_toNat, Nat.shiftRight_eq_div_pow]
  omega

/-- Masking a widened byte with 0x0F leaves its low nibble. -/
theorem setWidth_and_lowMask (b : Byte) : b.setWidth 16 &&& 0x0F#16 = (b.extractLsb' 0 4).setWidth 16 := by
  apply BitVec.eq_of_toNat_eq
  have hmask (n : Nat) : n &&& 15 = n % 16 := Nat.and_two_pow_sub_one_eq_mod n 4
  simp only [BitVec.toNat_and, BitVec.toNat_setWidth, BitVec.toNat_ofNat, toNat_lowNibble, hmask]
  omega

/-- Shifting a widened byte right by 4 leaves its high nibble. -/
theorem setWidth_ushiftRight_four (b : Byte) : b.setWidth 16 >>> 4 = (b.extractLsb' 4 4).setWidth 16 := by
  apply BitVec.eq_of_toNat_eq
  simp only [BitVec.toNat_ushiftRight, BitVec.toNat_setWidth, toNat_highNibble, Nat.shiftRight_eq_div_pow]
  omega

/-- The 12-bit layout that `H4` and `H5` share: a byte above a nibble, in a register of 16 bits. -/
theorem byte_or_nibble_eq_append (e : Byte) (x : BitVec 4) :
    (e.setWidth 16 <<< 4) ||| x.setWidth 16 = 0#4 ++ e ++ x :=
  calc (e.setWidth 16 <<< 4) ||| x.setWidth 16
    _ = ((0#4).setWidth 16 <<< (8 + 4)) ||| (e.setWidth 16 <<< 4) ||| x.setWidth 16 := by simp
    _ = (0#4 ++ e ++ x).setWidth 16 := BitVec.setWidth_append_append_eq_shiftLeft_setWidth_or.symm
    _ = 0#4 ++ e ++ x := BitVec.setWidth_eq _

theorem toNat_zero_append_byte_append (e : Byte) (x : BitVec 4) :
    (0#4 ++ e ++ x).toNat = e.toNat * 16 + x.toNat := by
  rw [toNat_append_eq_add, toNat_append_eq_add]
  simp

theorem nibbleH4_eq_append (e4 e5 : Byte) : nibbleH4 e4 e5 = 0#4 ++ e4 ++ e5.extractLsb' 0 4 := by
  rw [nibbleH4, setWidth_and_lowMask, byte_or_nibble_eq_append]

theorem nibbleH5_eq_append (e6 e5 : Byte) : nibbleH5 e6 e5 = 0#4 ++ e6 ++ e5.extractLsb' 4 4 := by
  rw [nibbleH5, setWidth_ushiftRight_four, byte_or_nibble_eq_append]

theorem toNat_nibbleH4 (e4 e5 : Byte) : (nibbleH4 e4 e5).toNat = e4.toNat * 16 + e5.toNat % 16 := by
  rw [nibbleH4_eq_append, ← toNat_lowNibble]
  exact toNat_zero_append_byte_append _ _

theorem toNat_nibbleH5 (e6 e5 : Byte) : (nibbleH5 e6 e5).toNat = e6.toNat * 16 + e5.toNat / 16 := by
  rw [nibbleH5_eq_append, ← toNat_highNibble]
  exact toNat_zero_append_byte_append _ _

theorem toNat_nibbleH4_le (e4 e5 : Byte) : (nibbleH4 e4 e5).toNat ≤ 4095 := by
  have h4 := e4.isLt
  rw [toNat_nibbleH4]
  omega

theorem toNat_nibbleH5_le (e6 e5 : Byte) : (nibbleH5 e6 e5).toNat ≤ 4095 := by
  have h6 := e6.isLt
  have h5 := e5.isLt
  rw [toNat_nibbleH5]
  omega

theorem code16_eq_append (b0 b1 : Byte) : code16 b0 b1 = b0 ++ b1 :=
  calc code16 b0 b1
    _ = (b0 ++ b1).setWidth 16 := BitVec.setWidth_append_eq_shiftLeft_setWidth_or.symm
    _ = b0 ++ b1 := BitVec.setWidth_eq _

/-- The three burst bytes form a 24-bit word, whose upper 20 bits are the code. -/
theorem code20_eq_append (b0 b1 b2 : Byte) : code20 b0 b1 b2 = b0 ++ b1 ++ b2.extractLsb' 4 4 :=
  calc code20 b0 b1 b2
    _ = ((b0 ++ b1 ++ b2).setWidth 24 >>> 4).setWidth 20 := by
      rw [BitVec.setWidth_append_append_eq_shiftLeft_setWidth_or]; rfl
    _ = (b0 ++ b1 ++ b2).extractLsb' 4 20 := by rw [BitVec.setWidth_eq]; rfl
    _ = b0 ++ b1 ++ b2.extractLsb' 4 4 := by rw [BitVec.extractLsb'_append_eq_ite]; simp

/-- The little-endian word is the big-endian one of the swapped bytes. -/
theorem le16_eq_append (b0 b1 : Byte) : le16 b0 b1 = b1 ++ b0 :=
  (BitVec.or_comm _ _).trans (code16_eq_append b1 b0)

theorem toNat_le16 (b0 b1 : Byte) : (le16 b0 b1).toNat = b0.toNat + 256 * b1.toNat := by
  have happend : (le16 b0 b1).toNat = b1.toNat * 2 ^ 8 + b0.toNat :=
    (congrArg BitVec.toNat (le16_eq_append b0 b1)).trans (toNat_append_eq_add b1 b0)
  omega

/-- Settles O34: one layout lemma and one value lemma per operand form, and the example of the source's S5. -/
theorem byteAssembly : Obligations.ByteAssembly :=
  ⟨fun e4 e5 e6 => ⟨nibbleH4_eq_append e4 e5, nibbleH5_eq_append e6 e5, toNat_nibbleH4_le e4 e5,
      toNat_nibbleH5_le e6 e5, toNat_nibbleH4 e4 e5, toNat_nibbleH5 e6 e5⟩,
    fun rb => ⟨code20_eq_append rb[0] rb[1] rb[2], code20_eq_append rb[3] rb[4] rb[5],
      code16_eq_append rb[6] rb[7]⟩,
    fun b0 b1 => ⟨le16_eq_append b0 b1, toNat_le16 b0 b1⟩, by decide, by decide⟩

end Sys2Proof.Machine

/-! PROOF. STATUS as four flags below `ERR` and two zeros (spec 30_encoding.md R96). -/

namespace Sys2Proof.Machine

theorem flagBit_eq_ofBool (b : Bool) : flagBit b = BitVec.ofBool b := by cases b <;> rfl

theorem lcBit_eq_ofBool (l : Lifecycle) : lcBit l = BitVec.ofBool (l = .ready) := by cases l <;> rfl

/-- STATUS, built from its top: each flag is appended below the bits before it. -/
theorem statusView_eq_concat (s : State) :
    statusView s =
      ((((0#2 ++ s.err).concat s.esticky).concat s.rvalid).concat (decide (s.lc = .ready))).concat s.busy := by
  simp only [statusView, flagBit_eq_ofBool, lcBit_eq_ofBool, BitVec.append_ofBool]

/-- Above the four flags stand `ERR` and the reserved zeros. -/
theorem statusView_getLsbD_add_four (s : State) (i : Nat) :
    (statusView s).getLsbD (i + 4) = (0#2 ++ s.err).getLsbD i := by
  simp only [statusView_eq_concat, BitVec.getLsbD_concat_succ]

theorem statusView_err (s : State) : (statusView s).extractLsb' 4 2 = s.err := by
  apply BitVec.eq_of_getLsbD_eq
  intro i hi
  rw [BitVec.getLsbD_extractLsb', Nat.add_comm 4 i, statusView_getLsbD_add_four, BitVec.getLsbD_append]
  simp [hi]

/-- Bits 7:6 read 0. -/
theorem statusView_reserved (s : State) (i : Nat) : (statusView s).getLsbD (i + 6) = false := by
  rw [statusView_getLsbD_add_four s (i + 2), BitVec.getLsbD_append]
  simp

/-- Settles O35: the flags by the concatenation, `ERR` and the reserved bits by what stands above them. -/
theorem statusLayout : Obligations.StatusLayout := by
  refine ⟨fun s => ⟨?busy, ?lc, ?rvalid, ?esticky, statusView_err s, statusView_reserved s 0,
    statusView_reserved s 1⟩, by decide⟩
  all_goals simp only [statusView_eq_concat, BitVec.getLsbD_concat_succ, BitVec.getLsbD_concat_zero]
  case lc => exact decide_eq_true_iff

end Sys2Proof.Machine

/-! PROOF. The integer primitives: each signed result is the exact one wrapped into [-2^31, 2^31 - 1], each unsigned one
the exact one modulo 2^32, and the shifts right and the quotient are floors (spec 40_arithmetic.md R121 to R126). -/

namespace Sys2Proof.Machine

theorem wrapS_of_fits {x : Int} (hlo : -2147483648 ≤ x) (hhi : x ≤ 2147483647) : wrapS x = x :=
  Int.bmod_eq_of_le hlo (Int.lt_add_one_of_le hhi)

theorem le_wrapS (x : Int) : -2147483648 ≤ wrapS x := Int.le_bmod (by decide)

theorem wrapS_le (x : Int) : wrapS x ≤ 2147483647 := Int.bmod_le (by decide)

theorem dvd_wrapS_sub_self (x : Int) : (4294967296 : Int) ∣ wrapS x - x := Int.dvd_bmod_sub_self

/-- A factor may be wrapped before the product is. -/
theorem wrapS_wrapS_mul (x y : Int) : wrapS (wrapS x * y) = wrapS (x * y) := Int.bmod_mul_bmod

@[simp] theorem toInt_add32 (a b : Word) : (add32 a b).toInt = wrapS (a.toInt + b.toInt) := BitVec.toInt_add a b

@[simp] theorem toInt_sub32 (a b : Word) : (sub32 a b).toInt = wrapS (a.toInt - b.toInt) := BitVec.toInt_sub

@[simp] theorem toInt_mul32 (a b : Word) : (mul32 a b).toInt = wrapS (a.toInt * b.toInt) := BitVec.toInt_mul a b

/-- The shift works on the unsigned value of the word, which its signed value is congruent to. -/
@[simp] theorem toInt_shl32 (a : Word) (n : Nat) : (shl32 a n).toInt = wrapS (a.toInt * 2 ^ n) :=
  calc (shl32 a n).toInt
    _ = wrapS (a.toNat <<< n : Nat) := BitVec.toInt_shiftLeft
    _ = wrapS (a.toNat * 2 ^ n) := by rw [Nat.shiftLeft_eq]; push_cast; rfl
    _ = wrapS (wrapS a.toNat * 2 ^ n) := (wrapS_wrapS_mul _ _).symm
    _ = wrapS (a.toInt * 2 ^ n) := by rw [← toInt_asS32]; rfl

@[simp] theorem toInt_asr32 (a : Word) (n : Nat) : (asr32 a n).toInt = floorShift a.toInt n := by
  rw [asr32, BitVec.toInt_sshiftRight, Int.shiftRight_eq_div_pow, floorShift]
  push_cast
  rfl

theorem floorShift_mul_le (x : Int) (n : Nat) : floorShift x n * 2 ^ n ≤ x := Int.ediv_mul_le x (by positivity)

theorem lt_floorShift_add_one_mul (x : Int) (n : Nat) : x < (floorShift x n + 1) * 2 ^ n :=
  Int.lt_ediv_add_one_mul_self x (by positivity)

@[simp] theorem toNat_uadd32 (a b : Word) : ((uadd32 a b).toNat : Int) = wrapU (a.toNat + b.toNat) := by
  rw [uadd32, BitVec.toNat_add, wrapU]
  push_cast
  rfl

/-- The word's difference adds 2^32 before it subtracts, which the modulus takes away again. -/
@[simp] theorem toNat_usub32 (a b : Word) : ((usub32 a b).toNat : Int) = wrapU (a.toNat - b.toNat) := by
  have hb := b.isLt
  rw [usub32, BitVec.toNat_sub, wrapU]
  omega

@[simp] theorem toNat_umul32 (a b : Word) : ((umul32 a b).toNat : Int) = wrapU (a.toNat * b.toNat) := by
  rw [umul32, BitVec.toNat_mul, wrapU]
  push_cast
  rfl

@[simp] theorem toNat_ushl32 (a : Word) (n : Nat) : (ushl32 a n).toNat = a.toNat * 2 ^ n % 4294967296 := by
  rw [ushl32, BitVec.toNat_shiftLeft, Nat.shiftLeft_eq]

@[simp] theorem toNat_lsr32 (a : Word) (n : Nat) : (lsr32 a n).toNat = a.toNat / 2 ^ n := by
  rw [lsr32, BitVec.toNat_ushiftRight, Nat.shiftRight_eq_div_pow]

@[simp] theorem toNat_udiv32 (a b : Word) : (udiv32 a b).toNat = a.toNat / b.toNat := BitVec.toNat_udiv

/-- Settles O29: one value lemma per primitive, and what it is to be wrapped. -/
theorem signedPrimitivesWrap : Obligations.SignedPrimitivesWrap :=
  ⟨fun a b => ⟨toInt_add32 a b, toInt_sub32 a b, toInt_mul32 a b⟩, fun a n _ _ => toInt_shl32 a n,
    fun _ => wrapS_of_fits, fun x => ⟨le_wrapS x, wrapS_le x, dvd_wrapS_sub_self x⟩⟩

/-- Settles O30: the shifted word's value is a floor division, whose remainder lies below the divisor. -/
theorem arithmeticShiftIsFloor : Obligations.ArithmeticShiftIsFloor := by
  intro a n _ _
  rw [toInt_asr32]
  exact ⟨floorShift_mul_le a.toInt n, lt_floorShift_add_one_mul a.toInt n⟩

/-- Settles O31: one value lemma per primitive; the divisor's value is positive, so the quotient is the floor. -/
theorem unsignedPrimitivesWrap : Obligations.UnsignedPrimitivesWrap := by
  refine ⟨fun a b => ⟨toNat_uadd32 a b, toNat_usub32 a b, toNat_umul32 a b⟩,
    fun a n _ _ => ⟨toNat_ushl32 a n, toNat_lsr32 a n⟩, fun a b hb => ?_⟩
  have hpos : 0 < b.toNat := Nat.pos_of_ne_zero (BitVec.toNat_ne.1 hb)
  rw [toNat_udiv32]
  exact ⟨Nat.div_mul_le_self a.toNat b.toNat, Nat.lt_mul_of_div_lt (Nat.lt_succ_self _) hpos⟩

end Sys2Proof.Machine

/-! PROOF. Where a micro-operation leaves PHASE (spec 41_commands.md R154 to R157): at the successor of its own code, or
at IDLE after one of its transactions failed. The codes and successors are read off the ways `Ran` lets it end. -/

namespace Sys2Proof.Machine

/-- A micro-operation makes at most two transactions; one of the two coming answers is Fail. -/
def FailInStore (s : State) : Prop := nextAnswer s = .fail ∨ s.transport.tail.headD .ok = .fail

/-- BusError was entered (R273), and the transport had a Fail in store. -/
def EndedByBusError (s t : State) : Prop := Raised t ∧ t.err = 3#2 ∧ FailInStore s

/-- No error has the code of OK (R270). -/
theorem errorCode_ne_zero (e : CmdError) : errorCode e ≠ 0#2 := by cases e <;> decide

theorem raised_raise (e : CmdError) (s : State) : Raised (raise e s) :=
  ⟨errorCode_ne_zero e, raise_esticky e s, raise_tfv e s, raise_busy e s, raise_phase e s⟩

theorem endedByBusError_raise {s : State} (u : State) (h : FailInStore s) : EndedByBusError s (raise .busError u) :=
  ⟨raised_raise .busError u, raise_err .busError u, h⟩

/-- A read uses up one answer: the next is the second that was in store. -/
theorem nextAnswer_readOk (a : Byte) (n : Nat) (s : State) :
    nextAnswer (readOk a n s) = s.transport.tail.headD .ok := by
  rw [nextAnswer, readOk_transport]

/-- Every way a micro-operation can end (R154, R155), by its phase code. IDLE is none: it leaves PHASE as it is. -/
theorem Ran.phase_next_or_busError {s t : State} {i : Instr} {c : PhaseCode} (h : Ran s i t)
    (hi : encode i = .ph6 c) (hc : c ≠ 0x00#6) : t.phase = nextPhase c ∨ EndedByBusError s t := by
  cases h with
  -- The commands have no phase code.
  | init | initRefused | get | getRefused => cases hi
  | idle => exact absurd (CodeWord.ph6.inj hi).symm hc
  -- The only or the first transaction fails.
  | wrcfg0Failed h | wrcfg1Failed h | wrcfg2Failed h | ldt1Failed h | ldt2Failed h | ldt3Failed h | ldp1Failed h
  | ldp2Failed h | ldp3Failed h | ldp4Failed h | ldp5Failed h | ldp6Failed h | ldp7Failed h | ldp8Failed h
  | ldp9Failed h | ldh1Failed h | ldh2Failed h | ldh3Failed h | ldh4Failed h | ldh5Failed h | ldh6Failed h
  | trigFailed h | rdrawFailed h =>
    exact .inr (endedByBusError_raise _ (.inl h))
  -- The second read of LDH4 or LDH5 fails.
  | ldh4SecondFailed _ h2 | ldh5SecondFailed _ h2 =>
    exact .inr (endedByBusError_raise _ (.inr (nextAnswer_readOk _ _ s ▸ h2)))
  -- The ends of the two sequences go to IDLE (R156, R157).
  | rdy | out =>
    obtain rfl := CodeWord.ph6.inj hi
    exact .inl (endCommand_phase _)
  -- Every other micro-operation has completed and moved on to the code after its own.
  | _ =>
    obtain rfl := CodeWord.ph6.inj hi
    exact .inl (goPhase_phase _ _)

/-- A micro-operation is no command, so it never waits for the command port. -/
theorem exec_completes_of_phaseCode {i : Instr} {c : PhaseCode} (hi : encode i = .ph6 c) (s : State) :
    ∃ t, exec i s = .next t :=
  exec_completes (by rintro rfl; cases hi) (by rintro rfl; cases hi) s

/-- Settles O38: a micro-operation completes, and each way it can end leaves PHASE as stated. -/
theorem phaseMovesToItsSuccessor : Obligations.PhaseMovesToItsSuccessor := by
  intro i c s hi hc
  obtain ⟨t, ht⟩ := exec_completes_of_phaseCode hi s
  exact ⟨t, ht, (exec_ran ht).phase_next_or_busError hi hc⟩

end Sys2Proof.Machine

/-! PROOF. The host's reads take their event from the script and add one entry to the host's record; a result register
has a value there exactly when it is defined (spec 41_commands.md R160, R161; 10_state.md R46). -/

namespace Sys2Proof.Machine

theorem resultsDefined_of_idle_valid {s : State} (hb : s.busy = false) (hv : s.rvalid = true) :
    resultsDefined s = true := by
  simp [resultsDefined, hb, hv]

theorem resultsDefined_of_busy_or_invalid {s : State} (h : s.busy = true ∨ s.rvalid = false) :
    resultsDefined s = false := by
  rcases h with hb | hv
  · simp [resultsDefined, hb]
  · simp [resultsDefined, hv]

theorem readResult_of_defined {s : State} (h : resultsDefined s = true) :
    readResult s .tOut = some s.tOut ∧ readResult s .hOut = some s.hOut ∧ readResult s .pOut = some s.pOut := by
  simp [readResult, h]

theorem readResult_of_undefined {s : State} (h : resultsDefined s = false) (r : ResultReg) : readResult s r = none := by
  simp [readResult, h]

/-- A read of STATUS sees the flags of the state it is made in (R160). -/
theorem step_readStatus {s : State} {rest : List Event} (hs : s.script = .readStatus :: rest) :
    step s = .next { s with script := rest, hostSeen := .status (statusView s) :: s.hostSeen } := by
  have hstep : step s = .next (hostReadsStatus (dropEvent s)) := by simp [step, sequencerStep, hs]
  rw [hstep, hostReadsStatus, dropEvent, hs]
  rfl

/-- A read of a result register records what `readResult` gives in the state it is made in (R161). -/
theorem step_readResult {s : State} {r : ResultReg} {rest : List Event} (hs : s.script = .readResult r :: rest) :
    step s = .next { s with script := rest, hostSeen := .result r (readResult s r) :: s.hostSeen } := by
  have hstep : step s = .next (hostReadsResult r (dropEvent s)) := by simp [step, sequencerStep, hs]
  rw [hstep, hostReadsResult, dropEvent, hs]
  rfl

/-- Settles O36: the two reads as exact steps, and the value of the second by whether the results are defined. -/
theorem hostReadsHaveNoSideEffect : Obligations.HostReadsHaveNoSideEffect := by
  refine ⟨fun s rest hs => step_readStatus hs, fun s r rest hs => ⟨readResult s r, step_readResult hs, ?_, ?_⟩⟩
  · intro hb hv
    obtain ⟨ht, hh, hp⟩ := readResult_of_defined (resultsDefined_of_idle_valid hb hv)
    exact ⟨fun e => e ▸ ht, fun e => e ▸ hh, fun e => e ▸ hp⟩
  · exact fun h => readResult_of_undefined (resultsDefined_of_busy_or_invalid h) r

end Sys2Proof.Machine

/-! PROOF. The loads of INIT (spec 42_calibration_ingest.md R173 to R190): what a read goes on with, and from it one
rule per form of load; each instruction is then one of these forms. -/

namespace Sys2Proof.Machine

theorem readOk_eq_afterRead (a : Byte) (n : Nat) (s : State) :
    readOk a n s = afterRead s a (drawBytes s.sensor s.draws a.toNat n) := by
  rw [afterRead, drawBytes_length]
  rfl

/-- BusError after the failed transaction was recorded (R273). -/
theorem raise_failedRead_eq_afterFailedRead (a : Byte) (n : Nat) (s : State) :
    raise .busError (transacted (.read Config.devAddr a n none) s) = afterFailedRead s a n := rfl

theorem readThen_of_ok {s : State} (a : Byte) (n : Nat) (k : List Byte → State → Outcome) (h : nextAnswer s = .ok) :
    readThen a n k s =
      k (drawBytes s.sensor s.draws a.toNat n) (afterRead s a (drawBytes s.sensor s.draws a.toNat n)) := by
  rcases readThen_cases a n k s with ⟨-, e⟩ | ⟨hfail, -⟩
  · rw [e, readOk_eq_afterRead]
  · simp [h] at hfail

theorem readThen_of_fail {s : State} (a : Byte) (n : Nat) (k : List Byte → State → Outcome)
    (h : nextAnswer s = .fail) : readThen a n k s = .next (afterFailedRead s a n) := by
  rcases readThen_cases a n k s with ⟨hok, -⟩ | ⟨-, e⟩
  · simp [h] at hok
  · rw [e, raise_failedRead_eq_afterFailedRead]

/-! The three forms of load where every read succeeds: which bytes reach the register, and in which order. -/

theorem loadWord_of_ok {s : State} (a : Byte) (next : PhaseCode) (put : Half → State → State)
    (h : nextAnswer s = .ok) :
    loadWord a next put s = .next (goPhase next
      (put (drawByte s.sensor (s.draws + 1) (a.toNat + 1) ++ drawByte s.sensor s.draws a.toNat)
        (afterRead s a [drawByte s.sensor s.draws a.toNat, drawByte s.sensor (s.draws + 1) (a.toNat + 1)]))) := by
  rw [← le16_eq_append]
  exact readThen_of_ok a 2 _ h

theorem loadByte_of_ok {s : State} (a : Byte) (next : PhaseCode) (put : Byte → State → State)
    (h : nextAnswer s = .ok) :
    loadByte a next put s = .next (goPhase next
      (put (drawByte s.sensor s.draws a.toNat) (afterRead s a [drawByte s.sensor s.draws a.toNat]))) :=
  readThen_of_ok a 1 _ h

/-- After a first read that succeeded, the load is a one-byte load from the second register. -/
theorem loadTwoBytes_of_ok {s : State} (a b : Byte) (next : PhaseCode) (put : Byte → Byte → State → State)
    (h : nextAnswer s = .ok) :
    loadTwoBytes a b next put s =
      loadByte b next (put (drawByte s.sensor s.draws a.toNat))
        (afterRead s a [drawByte s.sensor s.draws a.toNat]) :=
  readThen_of_ok a 1 _ h

/-! One rule per form of load. `put` is the register write of the model and `put'` that of the statement: the same
write, but the statement moves `PHASE` before it. -/

theorem wordLoad_of_loadWord {i : Instr} {code a next} (put : Half → State → State) {put' : Half → State → State}
    (hcode : encode i = .ph6 code) (hexec : ∀ s, exec i s = loadWord a next put s)
    (hput : ∀ v s, goPhase next (put v s) = put' v (goPhase next s)) : WordLoad i code a next put' := by
  refine ⟨hcode, fun s => ⟨fun hok => ?_, fun hfail => ?_⟩⟩
  · rw [hexec, loadWord_of_ok a next put hok]
    exact congrArg _ (hput _ _)
  · rw [hexec, loadWord, readThen_of_fail a 2 _ hfail]

theorem byteLoad_of_loadByte {i : Instr} {code a next} (put : Byte → State → State) {put' : Byte → State → State}
    (hcode : encode i = .ph6 code) (hexec : ∀ s, exec i s = loadByte a next put s)
    (hput : ∀ v s, goPhase next (put v s) = put' v (goPhase next s)) : ByteLoad i code a next put' := by
  refine ⟨hcode, fun s => ⟨fun hok => ?_, fun hfail => ?_⟩⟩
  · rw [hexec, loadByte_of_ok a next put hok]
    exact congrArg _ (hput _ _)
  · rw [hexec, loadByte, readThen_of_fail a 1 _ hfail]

theorem twoByteLoad_of_loadTwoBytes {i : Instr} {code a b next} (put : Byte → Byte → State → State)
    {put' : Byte → Byte → State → State} (hcode : encode i = .ph6 code)
    (hexec : ∀ s, exec i s = loadTwoBytes a b next put s)
    (hput : ∀ v w s, goPhase next (put v w s) = put' v w (goPhase next s)) : TwoByteLoad i code a b next put' := by
  refine ⟨hcode, fun s => ⟨fun hok hok2 => ?_, fun hok hfail2 => ?_, fun hfail => ?_⟩⟩
  · rw [hexec, loadTwoBytes_of_ok a b next put hok, loadByte_of_ok b next _ hok2]
    exact congrArg _ (hput _ _ _)
  · rw [hexec, loadTwoBytes_of_ok a b next put hok, loadByte, readThen_of_fail b 1 _ hfail2]
  · rw [hexec, loadTwoBytes, readThen_of_fail a 1 _ hfail]

/-- Settles O12: each is a two-byte load of the model, with its own register write. -/
theorem temperatureLoads : Obligations.TemperatureLoads :=
  ⟨wordLoad_of_loadWord putT1 rfl (fun _ => rfl) (fun _ _ => rfl),
    wordLoad_of_loadWord putT2 rfl (fun _ => rfl) (fun _ _ => rfl),
    wordLoad_of_loadWord putT3 rfl (fun _ => rfl) (fun _ _ => rfl)⟩

/-- Settles O13: each is a two-byte load of the model, with its own register write. -/
theorem pressureLoads : Obligations.PressureLoads :=
  ⟨wordLoad_of_loadWord putP1 rfl (fun _ => rfl) (fun _ _ => rfl),
    wordLoad_of_loadWord putP2 rfl (fun _ => rfl) (fun _ _ => rfl),
    wordLoad_of_loadWord putP3 rfl (fun _ => rfl) (fun _ _ => rfl),
    wordLoad_of_loadWord putP4 rfl (fun _ => rfl) (fun _ _ => rfl),
    wordLoad_of_loadWord putP5 rfl (fun _ => rfl) (fun _ _ => rfl),
    wordLoad_of_loadWord putP6 rfl (fun _ => rfl) (fun _ _ => rfl),
    wordLoad_of_loadWord putP7 rfl (fun _ => rfl) (fun _ _ => rfl),
    wordLoad_of_loadWord putP8 rfl (fun _ => rfl) (fun _ _ => rfl),
    wordLoad_of_loadWord putP9 rfl (fun _ => rfl) (fun _ _ => rfl)⟩

/-- Settles O14: LDH2 is a two-byte load, the others are one-byte loads. -/
theorem humidityLoads : Obligations.HumidityLoads :=
  ⟨byteLoad_of_loadByte putH1 rfl (fun _ => rfl) (fun _ _ => rfl),
    wordLoad_of_loadWord putH2 rfl (fun _ => rfl) (fun _ _ => rfl),
    byteLoad_of_loadByte putH3 rfl (fun _ => rfl) (fun _ _ => rfl),
    byteLoad_of_loadByte putH6 rfl (fun _ => rfl) (fun _ _ => rfl)⟩

/-- Settles O15: both are loads from two one-byte reads, and the word each assembles is the nibble layout of R100 and
R101. -/
theorem nibbleLoads : Obligations.NibbleLoads := by
  refine ⟨twoByteLoad_of_loadTwoBytes (fun e4 e5 => putH4 (nibbleH4 e4 e5)) rfl (fun _ => rfl) fun e4 e5 s => ?h4,
    twoByteLoad_of_loadTwoBytes (fun e6 e5 => putH5 (nibbleH5 e6 e5)) rfl (fun _ => rfl) fun e6 e5 s => ?h5⟩
  case h4 => rw [nibbleH4_eq_append]; rfl
  case h5 => rw [nibbleH5_eq_append]; rfl

end Sys2Proof.Machine

/-! PROOF. The ends of the two sequences, and WAIT (spec 42_calibration_ingest.md R191, 43_raw_sample.md R201,
47_output.md R260). -/

namespace Sys2Proof.Machine

theorem exec_rdy_eq (s : State) : exec .rdy s = .next (endCommand (becomeReady s)) := rfl

theorem exec_out_eq (s : State) : exec .out s = .next (endCommand (publish s)) := rfl

theorem exec_wait_eq (s : State) : exec .wait s = .next (goPhase 0x22#6 s) := rfl

/-- Settles O16: each is its named updates, which make up the record update stated. -/
theorem sequenceEndsAndWait : Obligations.SequenceEndsAndWait :=
  ⟨⟨rfl, exec_rdy_eq⟩, ⟨rfl, exec_out_eq⟩, ⟨rfl, exec_wait_eq⟩⟩

end Sys2Proof.Machine

/-! PROOF. The raw sample (spec 43_raw_sample.md R202, R203): RDRAW puts byte i of its read into byte i of `RB`, and
UNPK takes the three codes out of `RB` as big-endian numbers. -/

namespace Sys2Proof.Machine

/-- Byte i of a read comes from register `a + i`, by draw number `d + i` (R65, R77). -/
theorem byteAt_drawBytes (m : Memory) {n i : Nat} (d a : Nat) (h : i < n) :
    byteAt (drawBytes m d a n) i = drawByte m (d + i) (a + i) := by
  induction n generalizing d a i with
  | zero => omega
  | succ n ih =>
    cases i with
    | zero => rfl
    | succ i =>
      calc byteAt (drawBytes m d a (n + 1)) (i + 1)
        _ = byteAt (drawBytes m (d + 1) (a + 1) n) i := by simp [drawBytes, byteAt]
        _ = drawByte m (d + 1 + i) (a + 1 + i) := ih (d + 1) (a + 1) (by omega)
        _ = drawByte m (d + (i + 1)) (a + (i + 1)) := by congr 1 <;> omega

theorem getElem_burstOf (b : List Byte) (i : Fin 8) : (burstOf b)[i] = byteAt b i := by
  fin_cases i <;> rfl

/-- A list of eight bytes fills the burst buffer without loss. -/
theorem toList_burstOf {b : List Byte} (h : b.length = 8) : (burstOf b).toList = b := by
  apply List.ext_getElem (by simp [h])
  intro i hi hb
  calc (burstOf b).toList[i]
    _ = (burstOf b)[i]'(h ▸ hb) := Vector.getElem_toList hi
    _ = byteAt b i := getElem_burstOf b ⟨i, h ▸ hb⟩
    _ = b[i] := List.getD_eq_getElem _ _ hb

/-- A burst that succeeds: `RB` takes the bytes of the read, and besides its record only `PHASE` moves (R202). -/
theorem exec_rdraw_of_ok {s : State} (h : nextAnswer s = .ok) :
    exec .rdraw s = .next (goPhase 0x23#6 (putBurst (burstOf (drawBytes s.sensor s.draws 0xF7 8))
      (afterRead s 0xF7#8 (drawBytes s.sensor s.draws 0xF7 8)))) :=
  readThen_of_ok 0xF7#8 8 _ h

theorem exec_rdraw_of_fail {s : State} (h : nextAnswer s = .fail) :
    exec .rdraw s = .next (afterFailedRead s 0xF7#8 8) :=
  readThen_of_fail 0xF7#8 8 _ h

/-- Settles O17: `RB` holds exactly the bytes of the recorded read, and byte i of it is that of register `0xF7 + i`. -/
theorem burstFillsTheBuffer : Obligations.BurstFillsTheBuffer := by
  refine ⟨rfl, fun s => ⟨fun hok => ⟨_, exec_rdraw_of_ok hok, fun i => ?bytes, ?frame⟩, exec_rdraw_of_fail⟩⟩
  case bytes =>
    rw [goPhase_rb, putBurst_rb, getElem_burstOf]
    exact byteAt_drawBytes s.sensor s.draws 0xF7 i.isLt
  case frame =>
    rw [goPhase_rb, putBurst_rb, toList_burstOf (drawBytes_length ..)]
    rfl

/-- The discarded nibble is the remainder of the division by 16 (R102, R103). -/
theorem toNat_code20 (b0 b1 b2 : Byte) :
    (code20 b0 b1 b2).toNat = (b0.toNat * 65536 + b1.toNat * 256 + b2.toNat) / 16 := by
  rw [code20_eq_append, toNat_append_eq_add, toNat_append_eq_add, toNat_highNibble]
  omega

theorem toNat_code16 (b0 b1 : Byte) : (code16 b0 b1).toNat = b0.toNat * 256 + b1.toNat := by
  rw [code16_eq_append]
  exact toNat_append_eq_add b0 b1

theorem exec_unpk_eq (s : State) :
    exec .unpk s = .next (goPhase 0x24#6 (putSample (burstP s.rb) (burstT s.rb) (burstH s.rb) s)) := rfl

/-- Settles O18: the codes written are those of the burst, each with its layout and its value. -/
theorem unpackSplitsTheBurst : Obligations.UnpackSplitsTheBurst :=
  ⟨rfl, fun s => ⟨burstP s.rb, burstT s.rb, burstH s.rb, exec_unpk_eq s,
    code20_eq_append .., code20_eq_append .., code16_eq_append ..,
    toNat_code20 .., toNat_code20 .., toNat_code16 ..⟩⟩

end Sys2Proof.Machine

/-! PROOF. The temperature stage (spec 44_temperature.md R211): each word operation of CMPT has the value of its integer
step, and the shifts right by 11, 14 and 8 keep the results within the ranges of corner case (e). -/

namespace Sys2Proof.Machine

@[simp] theorem toInt_const32 (n : Int) : (const32 n).toInt = wrapS n := BitVec.toInt_ofInt n

/-- The rounding shift (R129) as an addition of the constant that may wrap, and a floor. -/
theorem toInt_roundShift (x : Word) (n : Nat) :
    (roundShift x n).toInt = floorShift (wrapS (x.toInt + wrapS (2 ^ (n - 1)))) n := by
  simp [roundShift]

/-- Steps 1 to 6 of R211, from the value rules of the operand forms and of the primitives. -/
theorem toInt_temperatureFine (adc : Code20) (c : TempCal) :
    (temperatureFine adc c).toInt = refTemperatureFine adc.toNat c.t1.toNat c.t2.toInt c.t3.toInt := by
  simp [temperatureFine, refTemperatureFine]

/-- Step 7 of R211: the constants 5 and 128 fit their words. -/
theorem toInt_temperatureResult (tf : Word) : (temperatureResult tf).toInt = refTemperatureResult tf.toInt := by
  have h5 : wrapS 5 = 5 := wrapS_of_fits (by decide) (by decide)
  have h128 : wrapS (2 ^ (8 - 1)) = 128 := wrapS_of_fits (by decide) (by decide)
  rw [temperatureResult, toInt_roundShift, toInt_mul32, toInt_const32, h5, h128, refTemperatureResult]

theorem exec_cmpt_eq (s : State) :
    exec .cmpt s = .next (goPhase 0x25#6
      (putFine (temperatureFine s.adcT s.calT) (temperatureResult (temperatureFine s.adcT s.calT)) s)) := rfl

/-- Settles O19: the two words CMPT writes, each with the value of its integer steps. -/
theorem cmptFollowsTheFormula : Obligations.CmptFollowsTheFormula :=
  ⟨rfl, fun s => ⟨_, _, exec_cmpt_eq s, toInt_temperatureFine s.adcT s.calT, toInt_temperatureResult _⟩⟩

/-- A wrapped value shifted right by n has 32 - n bits left, whatever was wrapped (R124). -/
theorem floorShift_wrapS_bounds {n k : Nat} (h : k + n = 31) (x : Int) :
    -2 ^ k ≤ floorShift (wrapS x) n ∧ floorShift (wrapS x) n < 2 ^ k := by
  have hsplit : (2 : Int) ^ k * 2 ^ n = 2147483648 := by rw [← pow_add, h]; rfl
  have hlo := le_wrapS x
  have hhi := wrapS_le x
  have hpos : (0 : Int) < 2 ^ n := by positivity
  exact ⟨(Int.le_ediv_iff_mul_le hpos).2 (by linarith), (Int.ediv_lt_iff_lt_mul hpos).2 (by linarith)⟩

/-- R211 corner case (e): the two shifted products bound `tf`, whatever the products wrapped to, and step 6 cannot
wrap. -/
theorem refTemperatureFine_bounds (adc t1 t2 t3 : Int) :
    -1179648 ≤ refTemperatureFine adc t1 t2 t3 ∧ refTemperatureFine adc t1 t2 t3 ≤ 1179648 := by
  obtain ⟨lo1, hi1⟩ := floorShift_wrapS_bounds (n := 11) (k := 20) rfl
    (wrapS (floorShift adc 3 - wrapS (t1 * 2)) * t2)
  obtain ⟨lo2, hi2⟩ := floorShift_wrapS_bounds (n := 14) (k := 17) rfl
    (floorShift (wrapS (wrapS (floorShift adc 4 - t1) * wrapS (floorShift adc 4 - t1))) 12 * t3)
  rw [refTemperatureFine, wrapS_of_fits (by linarith) (by linarith)]
  constructor <;> linarith

/-- Neither operation of step 7 wraps on a `tf` of that range (R211 corner case (e)). -/
theorem refTemperatureResult_of_bounded {tf : Int} (hlo : -1179648 ≤ tf) (hhi : tf ≤ 1179648) :
    refTemperatureResult tf = (tf * 5 + 128) / 256 := by
  have hmul : wrapS (tf * 5) = tf * 5 := wrapS_of_fits (by omega) (by omega)
  have hadd : wrapS (tf * 5 + 128) = tf * 5 + 128 := wrapS_of_fits (by omega) (by omega)
  rw [refTemperatureResult, hmul, hadd]
  rfl

/-- Settles O23: the bounds of `TFINE` hold of its integer steps, and the exact quotient of step 7 carries them over to
`T_OUT`. -/
theorem temperatureIsBounded : Obligations.TemperatureIsBounded := by
  intro adc c
  obtain ⟨hlo, hhi⟩ := refTemperatureFine_bounds adc.toNat c.t1.toNat c.t2.toInt c.t3.toInt
  rw [toInt_temperatureResult, toInt_temperatureFine, refTemperatureResult_of_bounded hlo hhi]
  exact ⟨hlo, hhi, by omega, by omega⟩

end Sys2Proof.Machine

/-! PROOF. The humidity stage where `TFINE` is valid (spec 45_humidity.md R221): the words of steps 1 to 8 have the
values of the integer steps, and the clamps leave a word that is not negative, so its last shift is a division of its
unsigned value too. -/

namespace Sys2Proof.Machine

theorem toInt_const32_of_fits {n : Int} (hlo : -2147483648 ≤ n) (hhi : n ≤ 2147483647) : (const32 n).toInt = n := by
  rw [toInt_const32, wrapS_of_fits hlo hhi]

/-- Half of the divisor fits its word for every distance a shift can have (R124, R129). -/
theorem toInt_roundShift_of_le {n : Nat} (h : n ≤ 31) (x : Word) :
    (roundShift x n).toInt = floorShift (wrapS (x.toInt + 2 ^ (n - 1))) n := by
  have hpos : (0 : Int) < 2 ^ (n - 1) := by positivity
  have hle : (2 : Int) ^ (n - 1) ≤ 2 ^ 30 := pow_le_pow_right₀ (by decide) (by omega)
  rw [toInt_roundShift, wrapS_of_fits (x := 2 ^ (n - 1)) (by omega) (by omega)]

/-! ### Steps 1 to 8 -/

/-- Step 2 of R221. -/
theorem toInt_humidityA (adc x : Word) (c : HumCal) :
    (humidityA adc x c).toInt = floorShift (wrapS (wrapS (wrapS (wrapS (adc.toInt * 2 ^ 14) -
      wrapS (c.h4.toInt * 2 ^ 20)) - wrapS (c.h5.toInt * x.toInt)) + 16384)) 15 := by
  simp [humidityA, toInt_roundShift_of_le]

/-- Steps 3 to 6 of R221. -/
theorem toInt_humidityE (x : Word) (c : HumCal) :
    (humidityE x c).toInt =
      let b := floorShift (wrapS (x.toInt * c.h6.toInt)) 10
      let cc := wrapS (floorShift (wrapS (x.toInt * c.h3.toNat)) 11 + 32768)
      let d := wrapS (floorShift (wrapS (b * cc)) 10 + 2097152)
      floorShift (wrapS (wrapS (d * c.h2.toInt) + 8192)) 14 := by
  have hcc : (const32 32768).toInt = 32768 := toInt_const32_of_fits (by decide) (by decide)
  have hd : (const32 2097152).toInt = 2097152 := toInt_const32_of_fits (by decide) (by decide)
  simp [humidityE, toInt_roundShift_of_le, hcc, hd, -toInt_const32]

/-- Steps 7 and 8 of R221. -/
theorem toInt_humidityW (a e : Word) (c : HumCal) :
    (humidityW a e c).toInt =
      let v := wrapS (a.toInt * e.toInt)
      let q := floorShift v 15
      wrapS (v - floorShift (wrapS (floorShift (wrapS (q * q)) 7 * c.h1.toNat)) 4) := by
  simp [humidityW]

/-- Steps 1 to 8 of R221: the three parts on the offset fine temperature of step 1. -/
theorem toInt_humidityCore (adc : Half) (tf : Word) (c : HumCal) :
    (humidityCore adc tf c).toInt = refHumidityCore adc.toNat tf.toInt c.h1.toNat c.h2.toInt c.h3.toNat c.h4.toInt
      c.h5.toInt c.h6.toInt := by
  have hoffset : (const32 76800).toInt = 76800 := toInt_const32_of_fits (by decide) (by decide)
  rw [humidityCore, toInt_humidityW, toInt_humidityA, toInt_humidityE, toInt_sub32, hoffset, toInt_widenU16,
    refHumidityCore]

/-! ### Step 9 -/

/-- Both comparisons of the clamp are signed (R128), so it cuts the signed value off at its two bounds (R130). -/
theorem toInt_clamp (v : Word) : (clamp v).toInt = max 0 (min v.toInt 419430400) := by
  have hzero : (const32 0).toInt = 0 := rfl
  have hhigh : clampHigh.toInt = 419430400 := rfl
  simp only [clamp, BitVec.slt_eq_decide, decide_eq_true_eq]
  split_ifs <;> omega

/-- Step 9 of R221 over the integers, its two comparisons as a minimum and a maximum. -/
theorem refHumidityFinish_eq (w : Int) : refHumidityFinish w = max 0 (min w 419430400) / 4096 := by
  have hclamp : (if (if w < 0 then 0 else w) > 419430400 then 419430400 else if w < 0 then 0 else w) =
      max 0 (min w 419430400) := by
    split_ifs <;> omega
  rw [refHumidityFinish, hclamp]
  rfl

/-- The clamped word is not negative, so its reading as `u32` keeps its value (R127). -/
theorem toNat_humidityFinish (w : Word) : ((humidityFinish w).toNat : Int) = refHumidityFinish w.toInt := by
  have hshift : (asr32 (clamp w) 12).toInt = refHumidityFinish w.toInt := by
    rw [toInt_asr32, toInt_clamp, refHumidityFinish_eq]
    rfl
  obtain ⟨hlo, hhi⟩ : 0 ≤ refHumidityFinish w.toInt ∧ refHumidityFinish w.toInt < 4294967296 := by
    rw [refHumidityFinish_eq]
    omega
  rw [humidityFinish, toNat_asU32, hshift]
  exact Int.emod_eq_of_lt hlo hhi

/-! ### The instruction -/

theorem tfineOperand_of_valid {s : State} (h : s.tfv = true) : tfineOperand s = s.tfine := if_pos h

/-- A valid fine temperature takes no free value. -/
theorem chargeTfine_of_valid {s : State} (h : s.tfv = true) : chargeTfine s = s := by
  rw [chargeTfine, if_pos h]

theorem exec_cmph_eq (s : State) :
    exec .cmph s =
      .next (goPhase 0x26#6 (putHOut (humidityStage s.adcH (tfineOperand s) s.calH) (chargeTfine s))) := rfl

/-- The two updates of CMPH as one, for any word, so that no comparison of states evaluates the stage. -/
theorem goPhase_putHOut (c : PhaseCode) (v : Word) (s : State) :
    goPhase c (putHOut v s) = { s with hOut := v, phase := c } := rfl

theorem exec_cmph_of_valid {s : State} (h : s.tfv = true) :
    exec .cmph s = .next { s with hOut := humidityStage s.adcH s.tfine s.calH, phase := 0x26#6 } := by
  rw [exec_cmph_eq, tfineOperand_of_valid h, chargeTfine_of_valid h, goPhase_putHOut]

/-- Settles O20: with `TFV = 1` the operand is `TFINE`, and the word CMPH writes has the value of step 9 on that of
steps 1 to 8. -/
theorem cmphFollowsTheFormula : Obligations.CmphFollowsTheFormula := by
  refine ⟨rfl, fun s hvalid => ⟨humidityStage s.adcH s.tfine s.calH, exec_cmph_of_valid hvalid, ?_⟩⟩
  rw [humidityStage, toNat_humidityFinish, toInt_humidityCore]

end Sys2Proof.Machine

/-! PROOF. The parts of the pressure stage for any operands: the two-way division, the dividend of step 9 and the
divisor of step 7 that the zero guard tests (spec 46_pressure.md R243 to R246). -/

namespace Sys2Proof.Machine

/-! ### The two forms of step 10 -/

theorem asU32_eq (a : Word) : asU32 a = a := rfl

theorem guardedDivide_of_lt {p : Word} (h : p.toNat < 2147483648) (d : Word) :
    guardedDivide p d = divideShiftFirst p d := if_pos (BitVec.lt_def.2 h)

theorem guardedDivide_of_ge {p : Word} (h : 2147483648 ≤ p.toNat) (d : Word) :
    guardedDivide p d = divideFirst p d := if_neg fun hlt => h.not_gt (BitVec.lt_def.1 hlt)

theorem toNat_divideShiftFirst (p d : Word) :
    (divideShiftFirst p d).toNat = p.toNat * 2 % 4294967296 / d.toNat := by
  rw [divideShiftFirst, asU32_eq, toNat_udiv32, toNat_ushl32, pow_one]

theorem toNat_divideFirst (p d : Word) : (divideFirst p d).toNat = p.toNat / d.toNat * 2 % 4294967296 := by
  rw [divideFirst, asU32_eq, umul32, BitVec.toNat_mul, toNat_udiv32]
  rfl

/-- Below 2^31 the shift first loses nothing (R244). -/
theorem toNat_divideShiftFirst_of_lt {p : Word} (h : p.toNat < 2147483648) (d : Word) :
    (divideShiftFirst p d).toNat = 2 * p.toNat / d.toNat := by
  rw [toNat_divideShiftFirst, Nat.mod_eq_of_lt (by omega), mul_comm]

/-- Below 2^31 the doubled quotient does not wrap either. -/
theorem toNat_divideFirst_of_lt {p : Word} (h : p.toNat < 2147483648) (d : Word) :
    (divideFirst p d).toNat = p.toNat / d.toNat * 2 := by
  have hle : p.toNat / d.toNat ≤ p.toNat := Nat.div_le_self _ _
  rw [toNat_divideFirst, Nat.mod_eq_of_lt (by omega)]

/-- Shifting first keeps at most one more bit of the quotient than dividing first (R244). -/
theorem double_div_bounds (p : Nat) {d : Nat} (hd : 0 < d) :
    p / d * 2 ≤ 2 * p / d ∧ 2 * p / d ≤ p / d * 2 + 1 := by
  have hfloor : p / d * d ≤ p := Nat.div_mul_le_self p d
  have hnext : p < (p / d + 1) * d := Nat.lt_mul_of_div_lt (Nat.lt_succ_self _) hd
  exact ⟨(Nat.le_div_iff_mul_le hd).2 (by linarith),
    Nat.lt_succ_iff.1 ((Nat.div_lt_iff_lt_mul hd).2 (by linarith))⟩

/-- A quotient of 2^31 or more leaves room for no divisor but 1 (R244). -/
theorem divisor_eq_one_of_large_quotient {p d : Word} (hd : 0 < d.toNat) (h : 2147483648 ≤ p.toNat / d.toNat) :
    d.toNat = 1 := by
  have hp : p.toNat < 4294967296 := p.isLt
  have hmul : 2147483648 * d.toNat ≤ p.toNat := (Nat.le_div_iff_mul_le hd).1 h
  omega

/-- The reading of a negative divisor as `u32` (R127). -/
theorem le_toNat_of_toInt_neg {d : Word} (h : d.toInt < 0) : 2147483648 ≤ d.toNat := by
  have hsign := BitVec.toInt_neg_iff.1 h
  omega

/-- Settles O27: below 2^31 neither form wraps, so the two are compared as quotients of natural numbers. -/
theorem twoWayDivision : Obligations.TwoWayDivision := by
  intro p d hd
  have hpos : 0 < d.toNat := Nat.pos_of_ne_zero (BitVec.toNat_ne.1 hd)
  refine ⟨fun hp => ?_, fun hp => ?_, le_toNat_of_toInt_neg⟩
  · rw [guardedDivide_of_lt hp, toNat_divideShiftFirst_of_lt hp, toNat_divideFirst_of_lt hp]
    exact ⟨rfl, rfl, double_div_bounds p.toNat hpos⟩
  · rw [guardedDivide_of_ge hp]
    exact ⟨rfl, toNat_divideFirst p d, divisor_eq_one_of_large_quotient hpos⟩

/-! ### The dividend of step 9 -/

/-- A word shifted right by n has 32 - n bits left (R124). -/
theorem toInt_asr32_bounds {n k : Nat} (h : k + n = 31) (a : Word) :
    -2 ^ k ≤ (asr32 a n).toInt ∧ (asr32 a n).toInt < 2 ^ k := by
  have hwrap : a.toInt = wrapS a.toNat := toInt_asS32 a
  rw [toInt_asr32, hwrap]
  exact floorShift_wrapS_bounds h _

/-- The value of a word read as `u32`, from its value as `s32` (R127). -/
theorem toNat_eq_wrapU (a : Word) : (a.toNat : Int) = wrapU a.toInt := toNat_asU32 a

/-- Neither subtraction of step 9 can wrap as `s32` (R245), and the same bits are its `u32` difference. -/
theorem toInt_pressureDifference (adc : Code20) (v : Word) :
    (pressureDifference adc v).toInt = 1048576 - (adc.toNat : Int) - (asr32 v 12).toInt := by
  have hadc : adc.toNat < 1048576 := adc.isLt
  obtain ⟨hlo, hhi⟩ := toInt_asr32_bounds (n := 12) (k := 19) rfl v
  have hsigned : pressureDifference adc v = sub32 (sub32 (const32 1048576) (widenU20 adc)) (asr32 v 12) := rfl
  rw [hsigned, toInt_sub32, toInt_sub32, toInt_const32_of_fits (by decide) (by decide), toInt_widenU20,
    wrapS_of_fits (x := 1048576 - (adc.toNat : Int)) (by omega) (by omega), wrapS_of_fits (by omega) (by omega)]

/-- The range of R245, from those of the raw code and of the shifted offset. -/
theorem pressureDifference_bounds (adc : Code20) (v : Word) :
    -524286 ≤ (pressureDifference adc v).toInt ∧ (pressureDifference adc v).toInt ≤ 1572864 := by
  have hadc : adc.toNat < 1048576 := adc.isLt
  obtain ⟨hlo, hhi⟩ := toInt_asr32_bounds (n := 12) (k := 19) rfl v
  rw [toInt_pressureDifference]
  omega

/-- R245: the difference lies far from 2^31 on both sides. -/
theorem toNat_pressureDifference_ne (adc : Code20) (v : Word) : (pressureDifference adc v).toNat ≠ 2147483648 := by
  obtain ⟨hlo, hhi⟩ := pressureDifference_bounds adc v
  have hvalue := toNat_eq_wrapU (pressureDifference adc v)
  rw [wrapU] at hvalue
  omega

theorem toNat_pressureDividend (adc : Code20) (v : Word) :
    (pressureDividend adc v).toNat = (pressureDifference adc v).toNat * 3125 % 4294967296 := by
  have h3125 : (const32 3125).toNat = 3125 := rfl
  have hproduct := toNat_umul32 (pressureDifference adc v) (const32 3125)
  rw [h3125, wrapU] at hproduct
  exact_mod_cast hproduct

/-- 3125 is odd, so modulo 2^32 only 2^31 has the multiple 2^31 (R245). -/
theorem mul_3125_mod_ne {n : Nat} (hlt : n < 4294967296) (hne : n ≠ 2147483648) :
    n * 3125 % 4294967296 ≠ 2147483648 := by
  omega

theorem toNat_pressureDividend_ne (adc : Code20) (v : Word) : (pressureDividend adc v).toNat ≠ 2147483648 := by
  rw [toNat_pressureDividend]
  exact mul_3125_mod_ne (pressureDifference adc v).isLt (toNat_pressureDifference_ne adc v)

/-- Settles O28: R245 by the bounds of the difference, R246 by those of its product with 3125. -/
theorem dividendBoundary : Obligations.DividendBoundary := by
  refine ⟨fun adc v => ?_, fun adc v d hle => guardedDivide_of_lt ?_ d,
    fun adc v d hge hle => guardedDivide_of_ge ?_ d⟩
  · obtain ⟨hlo, hhi⟩ := pressureDifference_bounds adc v
    exact ⟨hlo, hhi, toInt_pressureDifference adc v, toNat_pressureDifference_ne adc v,
      toNat_pressureDividend_ne adc v⟩
  · rw [toNat_pressureDividend, Nat.mod_eq_of_lt (by omega)]
    omega
  · rw [toNat_pressureDividend, Nat.mod_eq_of_lt (by omega)]
    omega

/-! ### The divisor of step 7 -/

/-- Step 6 of R241 ends with a shift right by 18 (R243). -/
theorem pressureScale_bounds (x : Word) (c : PresCal) :
    -8192 ≤ (pressureScale x c).toInt ∧ (pressureScale x c).toInt ≤ 8191 := by
  obtain ⟨hlo, hhi⟩ := toInt_asr32_bounds (n := 18) (k := 13) rfl
    (add32 (asr32 (mul32 (widenS16 c.p3) (asr32 (pressureHH x) 13)) 3) (asr32 (mul32 (widenS16 c.p2) x) 1))
  exact ⟨hlo, Int.lt_add_one_iff.1 hhi⟩

theorem toInt_pressureDivisor (x : Word) (c : PresCal) :
    (pressureDivisor x c).toInt = floorShift (wrapS (wrapS (32768 + (pressureScale x c).toInt) * c.p1.toNat)) 15 := by
  have h32768 : (const32 32768).toInt = 32768 := toInt_const32_of_fits (by decide) (by decide)
  rw [pressureDivisor, toInt_asr32, toInt_mul32, toInt_add32, h32768, toInt_widenU16]

theorem floorShift_15_eq_zero_iff (y : Int) : floorShift y 15 = 0 ↔ 0 ≤ y ∧ y < 32768 := by
  have hdiv : floorShift y 15 = y / 32768 := rfl
  omega

/-- R243 over the integers: a product that wraps becomes a large negative value, one that does not is at least 49152
for `P1 >= 2`. -/
theorem guard_product_iff {m p1 : Int} (hlo : -8192 ≤ m) (hhi : m ≤ 8191) (hp0 : 0 ≤ p1) (hp : p1 ≤ 65535) :
    floorShift (wrapS ((32768 + m) * p1)) 15 = 0 ↔ p1 = 0 ∨ (p1 = 1 ∧ m < 0) := by
  rw [floorShift_15_eq_zero_iff]
  obtain rfl | rfl | hge : p1 = 0 ∨ p1 = 1 ∨ 2 ≤ p1 := by omega
  · simp [wrapS]
  · rw [mul_one, wrapS_of_fits (by omega) (by omega)]
    omega
  · have hmin : 24576 * 2 ≤ (32768 + m) * p1 := mul_le_mul (by omega) hge (by decide) (by omega)
    have hmax : (32768 + m) * p1 ≤ 40959 * 65535 := mul_le_mul (by omega) hp hp0 (by decide)
    have hcong := dvd_wrapS_sub_self ((32768 + m) * p1)
    omega

/-- Settles O26: step 7's addition cannot wrap, and the value of its product decides. -/
theorem guardFiresExactlyWhen : Obligations.GuardFiresExactlyWhen := by
  intro x c
  obtain ⟨hlo, hhi⟩ := pressureScale_bounds x c
  have hp1 : c.p1.toNat < 65536 := c.p1.isLt
  have hguard := guard_product_iff hlo hhi (p1 := c.p1.toNat) (by omega) (by omega)
  refine ⟨hlo, hhi, ?_⟩
  rw [← BitVec.toInt_inj, BitVec.toInt_zero, toInt_pressureDivisor,
    wrapS_of_fits (x := 32768 + (pressureScale x c).toInt) (by omega) (by omega), hguard]
  norm_cast

end Sys2Proof.Machine

/-! PROOF. The pressure stage where `TFINE` is valid (spec 46_pressure.md R241, R242): the words of its steps have the
values of the integer steps, signed for `var1` and `var2`, unsigned for `p`. -/

namespace Sys2Proof.Machine

/-! ### Steps 1 to 7 -/

/-- Step 1 of R241. -/
theorem toInt_pressureX (tf : Word) : (pressureX tf).toInt = wrapS (floorShift tf.toInt 1 - 64000) := by
  rw [pressureX, toInt_sub32, toInt_asr32, toInt_const32_of_fits (by decide) (by decide)]

/-- Step 2 of R241. -/
theorem toInt_pressureHH (x : Word) :
    (pressureHH x).toInt = wrapS (floorShift x.toInt 2 * floorShift x.toInt 2) := by
  rw [pressureHH, toInt_mul32, toInt_asr32]

/-- Steps 3 to 5 of R241. -/
theorem toInt_pressureOffset (tf : Word) (c : PresCal) :
    (pressureOffset (pressureX tf) c).toInt = refPressureOffset tf.toInt c.p4.toInt c.p5.toInt c.p6.toInt := by
  simp [pressureOffset, refPressureOffset, toInt_pressureHH, toInt_pressureX]

/-- Step 6 of R241. -/
theorem toInt_pressureScale (tf : Word) (c : PresCal) :
    (pressureScale (pressureX tf) c).toInt = refPressureScale tf.toInt c.p2.toInt c.p3.toInt := by
  simp [pressureScale, refPressureScale, toInt_pressureHH, toInt_pressureX]

/-- Step 7 of R241. -/
theorem toInt_pressureDivisor_pressureX (tf : Word) (c : PresCal) :
    (pressureDivisor (pressureX tf) c).toInt =
      refPressureDivisor tf.toInt c.p1.toNat c.p2.toInt c.p3.toInt := by
  rw [toInt_pressureDivisor, toInt_pressureScale, refPressureDivisor]

/-! ### Steps 9 to 13 -/

/-- Step 9 of R241. -/
theorem toNat_pressureDividend_eq_ref (adc : Code20) (v : Word) :
    ((pressureDividend adc v).toNat : Int) = refPressureDividend adc.toNat v.toInt := by
  have h3125 : (const32 3125).toNat = 3125 := rfl
  have h1048576 : (const32 1048576).toInt = 1048576 := toInt_const32_of_fits (by decide) (by decide)
  rw [pressureDividend, toNat_umul32, h3125, pressureDifference, toNat_usub32, toNat_asU32, toNat_asU32, toInt_sub32,
    h1048576, toInt_widenU20, toInt_asr32, refPressureDividend]
  rfl

/-- Step 10 of R241: the comparison and both forms are those of unsigned values. -/
theorem toNat_guardedDivide (p d : Word) :
    ((guardedDivide p d).toNat : Int) = refPressureQuotient p.toNat d.toInt := by
  rw [refPressureQuotient, ← toNat_eq_wrapU]
  split_ifs with hp
  · rw [guardedDivide_of_lt (by omega), toNat_divideShiftFirst, wrapU]
    push_cast
    rfl
  · rw [guardedDivide_of_ge (by omega), toNat_divideFirst, wrapU]
    push_cast
    rfl

/-- Steps 11 to 13 of R241. -/
theorem toNat_pressureFinish (p : Word) (c : PresCal) :
    ((pressureFinish p c).toNat : Int) = refPressureFinish p.toNat c.p7.toInt c.p8.toInt c.p9.toInt := by
  simp [pressureFinish, refPressureFinish, toNat_asU32, toInt_asS32, floorShift]

/-! ### The guard and the whole stage -/

/-- R242, for any dividend and any correction. -/
theorem pressureWith_zero (p : Word) (f : Word → Word) : pressureWith 0#32 p f = 0#32 := if_pos rfl

theorem pressureWith_of_ne {d : Word} (h : d ≠ 0#32) (p : Word) (f : Word → Word) :
    pressureWith d p f = f (guardedDivide p d) := if_neg h

theorem pressureStage_eq (adc : Code20) (tf : Word) (c : PresCal) :
    pressureStage adc tf c = pressureWith (pressureDivisor (pressureX tf) c)
      (pressureDividend adc (pressureOffset (pressureX tf) c)) (fun p => pressureFinish p c) := rfl

/-- The tested word is zero exactly where the integer divisor of step 7 is. -/
theorem pressureDivisor_eq_zero_iff (tf : Word) (c : PresCal) :
    pressureDivisor (pressureX tf) c = 0#32 ↔ refPressureDivisor tf.toInt c.p1.toNat c.p2.toInt c.p3.toInt = 0 := by
  rw [← BitVec.toInt_inj, BitVec.toInt_zero, toInt_pressureDivisor_pressureX]

theorem pressureStage_of_zero_divisor {tf : Word} {c : PresCal}
    (h : refPressureDivisor tf.toInt c.p1.toNat c.p2.toInt c.p3.toInt = 0) (adc : Code20) :
    pressureStage adc tf c = 0#32 := by
  rw [pressureStage_eq, (pressureDivisor_eq_zero_iff tf c).2 h, pressureWith_zero]

/-- R241: the guard of step 8 tests the same divisor on both sides. -/
theorem toNat_pressureStage (adc : Code20) (tf : Word) (c : PresCal) :
    ((pressureStage adc tf c).toNat : Int) = refPressure adc.toNat tf.toInt c.p1.toNat c.p2.toInt c.p3.toInt
      c.p4.toInt c.p5.toInt c.p6.toInt c.p7.toInt c.p8.toInt c.p9.toInt := by
  rw [refPressure]
  split_ifs with hguard
  · rw [pressureStage_of_zero_divisor hguard]
    rfl
  · have hdivisor := mt (pressureDivisor_eq_zero_iff tf c).1 hguard
    rw [pressureStage_eq, pressureWith_of_ne hdivisor, toNat_pressureFinish, toNat_guardedDivide,
      toNat_pressureDividend_eq_ref, toInt_pressureOffset, toInt_pressureDivisor_pressureX]

/-! ### The instruction -/

theorem exec_cmpp_eq (s : State) :
    exec .cmpp s =
      .next (goPhase 0x27#6 (putPOut (pressureStage s.adcP (tfineOperand s) s.calP) (chargeTfine s))) := rfl

/-- The two updates of CMPP as one, for any word, so that no comparison of states evaluates the stage. -/
theorem goPhase_putPOut (c : PhaseCode) (v : Word) (s : State) :
    goPhase c (putPOut v s) = { s with pOut := v, phase := c } := rfl

theorem exec_cmpp_of_valid {s : State} (h : s.tfv = true) :
    exec .cmpp s = .next { s with pOut := pressureStage s.adcP s.tfine s.calP, phase := 0x27#6 } := by
  rw [exec_cmpp_eq, tfineOperand_of_valid h, chargeTfine_of_valid h, goPhase_putPOut]

/-- Settles O21: with `TFV = 1` the operand is `TFINE`, and the word CMPP writes has the value of R241's steps. -/
theorem cmppFollowsTheFormula : Obligations.CmppFollowsTheFormula :=
  ⟨rfl, fun s hvalid => ⟨_, exec_cmpp_of_valid hvalid, toNat_pressureStage s.adcP s.tfine s.calP⟩⟩

/-- With a busy CORE at OUT and an empty script, the GET ends without error (R260). -/
theorem step_at_out {s : State} (hb : s.busy = true) (hs : s.script = []) (hp : s.phase = 0x27#6) :
    step s = .next (endCommand (publish s)) := by
  have hd : decodePhase s.phase = .ok .out := by rw [hp]; rfl
  rw [step_turn hb hs hd, exec_out_eq]

/-- Settles O25: the guarded stage is zero, so CMPP's step writes it, and OUT ends the GET on that result. -/
theorem zeroGuardGivesZero : Obligations.ZeroGuardGivesZero := by
  refine ⟨pressureWith_zero, fun s hbusy hphase hvalid hscript hguard => ⟨?_, ?_⟩⟩
  · have hd : decodePhase s.phase = .ok .cmpp := by rw [hphase]; rfl
    rw [step_turn hbusy hscript hd, exec_cmpp_of_valid hvalid, pressureStage_of_zero_divisor hguard]
  · exact ⟨_, step_at_out hbusy hscript rfl, by simp⟩

end Sys2Proof.Machine

/-! PROOF. The two code tables (spec 30_encoding.md, sections 1 and 2): the decoder undoes the encoder, a code that
decodes is the encoder's, and every other code is refused by name. -/

namespace Sys2Proof.Machine

theorem decode_encode (i : Instr) : decode (encode i) = .ok i := by
  cases i <;> rfl

theorem decode_eq_ok {cw : CodeWord} {i : Instr} (h : decode cw = .ok i) : cw = encode i := by
  cases cw with
  | ph6 c => exact (decodePhase_code h).symm
  | cmd8 w =>
    rcases decodeCommand_cases w with ⟨rfl, d⟩ | ⟨rfl, d⟩ | ⟨-, -, d⟩
    · obtain rfl := Except.ok.inj (d.symm.trans h); rfl
    · obtain rfl := Except.ok.inj (d.symm.trans h); rfl
    · cases d.symm.trans h

theorem decode_cmd8_eq_reserved_iff (w : Byte) :
    w ≠ 0x01#8 ∧ w ≠ 0x02#8 ↔ decode (.cmd8 w) = .error (.reservedCommand w) := by
  rcases decodeCommand_cases w with ⟨rfl, -⟩ | ⟨rfl, -⟩ | ⟨h1, h2, d⟩
  · decide
  · decide
  · exact ⟨fun _ => d, fun _ => ⟨h1, h2⟩⟩

/-- The unused codes of R95. -/
def UnusedPhase (c : PhaseCode) : Prop := (0x17 ≤ c.toNat ∧ c.toNat ≤ 0x1F) ∨ 0x28 ≤ c.toNat

/-- No instruction has an unused code (R94). -/
theorem not_unusedPhase_of_encode {c : PhaseCode} {i : Instr} (h : encode i = .ph6 c) : ¬ UnusedPhase c := by
  cases i <;> cases h <;> simp [UnusedPhase]

theorem decodePhase_ok_or_unused (c : PhaseCode) :
    (∃ i, decodePhase c = .ok i) ∨ decodePhase c = .error (.unusedPhase c) := by
  unfold decodePhase
  split <;> simp

/-- The codes that are not unused are those of the two sequences, and IDLE's. -/
theorem sequence_or_idle_of_not_unusedPhase {c : PhaseCode} (h : ¬ UnusedPhase c) :
    c = 0x00#6 ∨ initPhase c = true ∨ getPhase c = true := by
  simp only [UnusedPhase, initPhase, getPhase, Bool.and_eq_true, decide_eq_true_eq] at *
  bv_omega

theorem decodePhase_eq_unused_iff (c : PhaseCode) : UnusedPhase c ↔ decodePhase c = .error (.unusedPhase c) := by
  constructor
  · intro hu
    rcases decodePhase_ok_or_unused c with ⟨i, d⟩ | d
    · exact absurd hu (not_unusedPhase_of_encode (decodePhase_code d))
    · exact d
  · intro d
    by_contra hu
    rcases sequence_or_idle_of_not_unusedPhase hu with rfl | hseq
    · cases d
    · obtain ⟨i, hi⟩ := decodePhase_sequence hseq
      cases hi.symm.trans d

/-- Settles O3: one lemma per clause. -/
theorem everyCodeHasOneMeaning : Obligations.EveryCodeHasOneMeaning :=
  ⟨decode_encode, fun _ _ => decode_eq_ok, decode_cmd8_eq_reserved_iff, decodePhase_eq_unused_iff⟩

end Sys2Proof.Machine

/-! PROOF. The layer the statements about all steps share: who has moved (spec 00_scope.md R17), and how a
micro-operation leaves the control registers (41_commands.md R154 to R157; 60_exceptions.md R273). -/

namespace Sys2Proof.Machine

/-- At most the script, the sensor, the transport's answers and the host's record differ: no register of CORE, and no
transaction was made. The sensor's list stays canonical. -/
def OutsideOnly (s t : State) : Prop :=
  ∃ m l r o, (s.sensor.wf = true → m.wf = true) ∧
    t = { s with sensor := m, transport := l, script := r, hostSeen := o }

theorem atTurn_outsideOnly (s : State) : OutsideOnly s (atTurn s) := by
  obtain ⟨l, e⟩ := atTurn_eq s
  exact ⟨_, _, l, _, id, e⟩

theorem dropEvent_outsideOnly (s : State) : OutsideOnly s (dropEvent s) := ⟨_, _, _, _, id, rfl⟩

theorem sensorActs_dropEvent_outsideOnly (a : Byte) (v : Option Byte) (s : State) :
    OutsideOnly s (sensorActs a v (dropEvent s)) := by
  have hwf (h : s.sensor.wf = true) : (sensorActs a v (dropEvent s)).sensor.wf = true := sensorActs_wf a v h
  obtain ⟨m, e⟩ := sensorActs_eq a v (dropEvent s)
  rw [e] at hwf ⊢
  exact ⟨m, _, _, _, hwf, rfl⟩

@[simp] theorem atTurn_phase (s : State) : (atTurn s).phase = s.phase := by
  obtain ⟨l, e⟩ := atTurn_eq s
  rw [e]

@[simp] theorem atTurn_lc (s : State) : (atTurn s).lc = s.lc := by
  obtain ⟨l, e⟩ := atTurn_eq s
  rw [e]

@[simp] theorem atTurn_err (s : State) : (atTurn s).err = s.err := by
  obtain ⟨l, e⟩ := atTurn_eq s
  rw [e]

@[simp] theorem atTurn_params (s : State) : (atTurn s).params = s.params := by
  obtain ⟨l, e⟩ := atTurn_eq s
  rw [e]

@[simp] theorem atTurn_transport (s : State) : (atTurn s).transport = s.transport := by
  obtain ⟨l, e⟩ := atTurn_eq s
  rw [e]

/-- Who has moved in a step. -/
inductive Moved (s t : State) : Prop where
  /-- CORE, in the micro-operation that PHASE selects (R154). -/
  | turn (i : Instr) (hb : s.busy = true) (hi : encode i = .ph6 s.phase) (ran : Ran (atTurn s) i t)
  /-- CORE, dispatching the host's word (R150). -/
  | dispatch (w : Byte) (rest : List Event) (hs : s.script = .command w :: rest) (hb : s.busy = false)
    (h : presentCommand w (dropEvent s) = .next t)
  /-- The host, with a reset (R300). -/
  | reset (rest : List Event) (hs : s.script = .reset :: rest) (ht : t = assertReset (dropEvent s))
  /-- The host otherwise, the sensor or the transport; or nobody. -/
  | outside (h : OutsideOnly s t)

theorem step_moved {s t : State} (h : step s = .next t) : Moved s t := by
  rcases step_ran h with ⟨hb, -, i, hi, ran⟩ | ⟨-, -, rfl⟩ | ⟨w, rest, hs, hb, hd⟩ | ⟨rest, -, -, rfl⟩ |
    ⟨rest, hs, ht⟩ | ⟨rest, -, rfl⟩ | ⟨r, rest, -, rfl⟩ | ⟨a, v, rest, -, rfl⟩ | ⟨k, rest, -, rfl⟩ |
    ⟨-, rfl⟩ | ⟨e, rest, -, rfl⟩
  · exact .turn i hb hi ran
  · exact .outside (atTurn_outsideOnly s)
  · exact .dispatch w rest hs hb hd
  · exact .outside (dropEvent_outsideOnly s)
  · exact .reset rest hs ht
  · exact .outside ⟨_, _, _, _, id, rfl⟩
  · exact .outside ⟨_, _, _, _, id, rfl⟩
  · exact .outside (sensorActs_dropEvent_outsideOnly a v s)
  · exact .outside ⟨_, _, _, _, id, rfl⟩
  · exact .outside ⟨_, _, _, _, id, rfl⟩
  · exact .outside (dropEvent_outsideOnly s)

/-- The codes of the 23 micro-operations that access the bus (R61, R156, R157). -/
def BusPhase (c : PhaseCode) : Prop := (0x01#6 ≤ c ∧ c ≤ 0x15#6) ∨ c = 0x20#6 ∨ c = 0x22#6

/-- How the micro-operation of code c leaves the control registers of CORE. -/
inductive Ended (s : State) (c : PhaseCode) (t : State) : Prop where
  /-- IDLE has no micro-operation. -/
  | idled (hc : c = 0x00#6) (ht : t = s)
  /-- It has completed inside its sequence; CMPT alone writes a flag, TFV. -/
  | wentOn (hc : c ≠ 0x00#6 ∧ c ≠ 0x16#6 ∧ c ≠ 0x27#6) (phase : t.phase = c + 1#6) (busy : t.busy = s.busy)
    (lc : t.lc = s.lc) (rvalid : t.rvalid = s.rvalid) (err : t.err = s.err) (esticky : t.esticky = s.esticky)
    (tfv : t.tfv = (s.tfv || c == 0x24#6))
  /-- RDY has completed. -/
  | ready (hc : c = 0x16#6) (ht : t = endCommand (becomeReady s))
  /-- OUT has completed. -/
  | published (hc : c = 0x27#6) (ht : t = endCommand (publish s))
  /-- A transaction failed. -/
  | failed (hc : BusPhase c) (fail : FailInStore s) (raised : Raised t) (err : t.err = 3#2) (lc : t.lc = s.lc)
    (rvalid : t.rvalid = s.rvalid)

theorem Ran.ended {s t : State} {i : Instr} {c : PhaseCode} (h : Ran s i t) (hi : encode i = .ph6 c) :
    Ended s c t := by
  cases h with
  | init | initRefused | get | getRefused => cases hi
  | idle => cases hi; exact .idled rfl rfl
  | rdy => cases hi; exact .ready rfl rfl
  | out => cases hi; exact .published rfl rfl
  | wrcfg0Failed h | wrcfg1Failed h | wrcfg2Failed h | ldt1Failed h | ldt2Failed h | ldt3Failed h | ldp1Failed h
  | ldp2Failed h | ldp3Failed h | ldp4Failed h | ldp5Failed h | ldp6Failed h | ldp7Failed h | ldp8Failed h
  | ldp9Failed h | ldh1Failed h | ldh2Failed h | ldh3Failed h | ldh4Failed h | ldh5Failed h | ldh6Failed h
  | trigFailed h | rdrawFailed h =>
    cases hi
    exact .failed (by simp [BusPhase]) (.inl h) (raised_raise _ _) (raise_err _ _) (by simp) (by simp)
  | ldh4SecondFailed _ h2 | ldh5SecondFailed _ h2 =>
    cases hi
    exact .failed (by simp [BusPhase]) (.inr (nextAnswer_readOk _ _ s ▸ h2)) (raised_raise _ _) (raise_err _ _)
      (by simp) (by simp)
  | _ =>
    cases hi
    exact .wentOn (by decide) (goPhase_phase _ _) (by simp) (by simp) (by simp) (by simp) (by simp) (by simp)

end Sys2Proof.Machine

/-! PROOF. Every step keeps the control invariant (spec 10_state.md R29, R34, R37, R39; 70_reset_and_hazards.md R308):
a micro-operation by the way it ends, a dispatch by the arm it takes. -/

namespace Sys2Proof.Machine

theorem ControlInv.outside {s t : State} (h : ControlInv s) (o : OutsideOnly s t) : ControlInv t := by
  obtain ⟨m, l, r, o, -, rfl⟩ := o
  exact ⟨h.idle, h.running, h.fine, h.valid, h.sticky⟩

/-- While BUSY = 0, TFV = 0 (R29, R308). -/
theorem ControlInv.tfv_of_idle {s : State} (h : ControlInv s) (hb : s.busy = false) : s.tfv = false := by
  simpa [hb] using h.fine

theorem ControlInv.rvalid_of_busy {s : State} (h : ControlInv s) (hb : s.busy = true) : s.rvalid = false := by
  by_contra hv
  have hidle := (h.valid (by simpa using hv)).2
  simp [hb] at hidle

theorem controlInv_of_idle {t : State} (hb : t.busy = false) (hp : t.phase = 0x00#6) (htfv : t.tfv = false)
    (hv : t.rvalid = true → t.lc = .ready) (hsticky : t.err ≠ 0#2 → t.esticky = true) : ControlInv t where
  idle _ := hp
  running h := by simp [hb] at h
  fine := by simp [hb, htfv]
  valid h := ⟨hv h, hb⟩
  sticky := hsticky

theorem controlInv_of_raised {t : State} (h : Raised t) (hv : t.rvalid = true → t.lc = .ready) : ControlInv t := by
  obtain ⟨-, hsticky, htfv, hb, hp⟩ := h
  exact controlInv_of_idle hb hp htfv hv fun _ => hsticky

theorem initPhase_iff {c : PhaseCode} : initPhase c = true ↔ 0x01#6 ≤ c ∧ c ≤ 0x16#6 := by simp [initPhase]

theorem getPhase_iff {c : PhaseCode} : getPhase c = true ↔ 0x20#6 ≤ c ∧ c ≤ 0x27#6 := by simp [getPhase]

/-- Inside a sequence the successor of a code is the next one (R156, R157). -/
theorem initPhase_succ {c : PhaseCode} (h : initPhase c = true) (hc : c ≠ 0x16#6) : initPhase (c + 1#6) = true := by
  rw [initPhase_iff] at *
  bv_omega

theorem getPhase_succ {c : PhaseCode} (h : getPhase c = true) (hc : c ≠ 0x27#6) : getPhase (c + 1#6) = true := by
  rw [getPhase_iff] at *
  bv_omega

/-- CMPT's successor is the first of the codes at which TFV = 1. -/
theorem finePhase_succ_iff {c : PhaseCode} (hc : c ≠ 0x27#6) :
    (0x25#6 ≤ c + 1#6 ∧ c + 1#6 ≤ 0x27#6) ↔ (0x25#6 ≤ c ∧ c ≤ 0x27#6) ∨ c = 0x24#6 := by
  bv_omega

theorem ControlInv.sequence {s : State} (h : ControlInv s) (hb : s.busy = true) :
    initPhase s.phase = true ∨ getPhase s.phase = true :=
  (h.running hb).imp And.left And.left

/-- Every way a micro-operation can end keeps the control invariant. -/
theorem ControlInv.ended {s t : State} (h : ControlInv s) (hb : s.busy = true) (e : Ended s s.phase t) :
    ControlInv t := by
  have hrv := h.rvalid_of_busy hb
  cases e with
  | idled _ ht => exact ht ▸ h
  | wentOn hc phase busy lc rvalid err esticky tfv =>
    obtain ⟨-, hc16, hc27⟩ := hc
    refine ⟨fun ht => ?_, fun _ => ?_, ?_, fun ht => ?_, fun ht => ?_⟩
    case refine_1 => rw [busy, hb] at ht; cases ht
    case refine_2 =>
      rw [phase, lc]
      exact (h.running hb).imp (And.imp_left (initPhase_succ · hc16)) (And.imp_left (getPhase_succ · hc27))
    case refine_3 =>
      have hfine : s.tfv = true ↔ 0x25#6 ≤ s.phase ∧ s.phase ≤ 0x27#6 := by simpa [hb] using h.fine
      rw [tfv, phase, busy, hb, finePhase_succ_iff hc27, ← hfine]
      simp
    case refine_4 => rw [rvalid, hrv] at ht; cases ht
    case refine_5 => rw [esticky]; exact h.sticky (err ▸ ht)
  | ready hc ht =>
    have htfv : s.tfv = false := by
      by_contra hf
      obtain ⟨-, hcode, -⟩ := h.fine.1 (by simpa using hf)
      rw [hc] at hcode
      exact absurd hcode (by decide)
    subst ht
    exact controlInv_of_idle (by simp) (by simp) (by simpa using htfv) (by simp) (by simp)
  | published hc ht =>
    have hlc : s.lc = .ready := by
      rcases h.running hb with ⟨hcode, -⟩ | ⟨-, hlc⟩
      · rw [hc] at hcode; exact absurd hcode (by decide)
      · exact hlc
    subst ht
    exact controlInv_of_idle (by simp) (by simp) (by simp) (by simpa using hlc) (by simp)
  | failed _ _ raised _ _ rvalid =>
    exact controlInv_of_raised raised fun ht => by rw [rvalid, hrv] at ht; cases ht

/-- Dispatch keeps the control invariant, whether it accepts the word or raises an error (R150). -/
theorem ControlInv.dispatched {s t : State} {w : Byte} (h : ControlInv s) (hb : s.busy = false)
    (hd : presentCommand w s = .next t) : ControlInv t := by
  have htfv := h.tfv_of_idle hb
  have hvalid (hv : s.rvalid = true) : s.lc = .ready := (h.valid hv).1
  rcases presentCommand_ran hb hd with ⟨-, hl, rfl⟩ | ⟨-, hl, rfl⟩ | ⟨-, rfl⟩ | ⟨-, -, rfl⟩
  · refine ⟨by simp, fun _ => .inl ⟨initPhase_iff.2 (by simp), hl⟩, by simp [htfv], fun hv => ?_, h.sticky⟩
    exact absurd (hvalid hv) (by simp [hl])
  · exact ⟨by simp, fun _ => .inr ⟨getPhase_iff.2 (by simp), hl⟩, by simp, by simp, h.sticky⟩
  · exact controlInv_of_raised (raised_raise _ _) hvalid
  · exact controlInv_of_raised (raised_raise _ _) hvalid

/-- Settles O43: by who moves, and for a micro-operation by the way it ends. -/
theorem stepKeepsControl : Obligations.StepKeepsControl := by
  intro s t h hstep
  cases step_moved hstep with
  | turn i hb hi ran =>
    exact (h.outside (atTurn_outsideOnly s)).ended (by simpa using hb) (ran.ended (by simpa using hi))
  | dispatch w rest _ hb hd => exact (h.outside (dropEvent_outsideOnly s)).dispatched (by simpa using hb) hd
  | reset rest _ ht =>
    subst ht
    exact controlInv_of_idle (by simp) (by simp) (by simp) (by simp) (by simp)
  | outside o => exact h.outside o

end Sys2Proof.Machine

/-! PROOF. Every step keeps the bus invariant (spec 20_memory.md R61 to R63, R69; 00_scope.md R5): each transaction that
an instruction makes is one of the register map's, and no write leaves the sensor's list out of order. -/

namespace Sys2Proof.Machine

/-- The bus invariant sees the sensor, the history and the parameters alone. -/
theorem BusInv.congr {s t : State} (h : BusInv s) (hm : t.sensor = s.sensor) (hx : t.history = s.history)
    (hp : t.params = s.params) : BusInv t :=
  ⟨hm ▸ h.memory, hx ▸ h.accesses, hp ▸ h.params⟩

theorem BusInv.outside {s t : State} (h : BusInv s) (o : OutsideOnly s t) : BusInv t := by
  obtain ⟨m, l, r, o, hwf, rfl⟩ := o
  exact ⟨hwf h.memory, h.accesses, h.params⟩

theorem BusInv.transacted {s : State} {x : Transaction} (h : BusInv s) (hx : allowedAccess x = true) :
    BusInv (transacted x s) :=
  ⟨h.memory, by simp [hx, h.accesses], h.params⟩

theorem BusInv.readOk {s : State} {a : Byte} {n : Nat} (h : BusInv s)
    (ha : ∀ b, allowedAccess (.read Config.devAddr a n b) = true) : BusInv (readOk a n s) :=
  (BusInv.congr (t := { s with draws := s.draws + n }) h rfl rfl rfl).transacted (ha _)

theorem BusInv.writeOk {s : State} {a v : Byte} (h : BusInv s)
    (ha : allowedAccess (.write Config.devAddr a v true) = true) : BusInv (writeOk a v s) :=
  BusInv.transacted (s := { s with sensor := s.sensor.write a.toNat v })
    ⟨wf_write a v h.memory, h.accesses, h.params⟩ ha

theorem BusInv.raise {s : State} (h : BusInv s) (e : CmdError) : BusInv (raise e s) := h.congr rfl rfl rfl

/-- The three configuration registers are those CORE writes (R61, R108). -/
theorem allowedAccess_config (r : CfgReg) (v : Byte) (ok : Bool) :
    allowedAccess (.write Config.devAddr (cfgAddr r) v ok) = true := by
  cases r <;> rfl

/-- An instruction makes only the accesses of the register map (R62). -/
theorem BusInv.ran {s t : State} {i : Instr} (hs : BusInv s) (h : Ran s i t) : BusInv t := by
  cases h with
  | idle => exact hs
  | initRefused | getRefused => exact hs.raise _
  | wrcfg0Failed | wrcfg1Failed | wrcfg2Failed =>
    exact (hs.transacted (allowedAccess_config _ _ _)).raise _
  | ldt1Failed | ldt2Failed | ldt3Failed | ldp1Failed | ldp2Failed | ldp3Failed | ldp4Failed | ldp5Failed
  | ldp6Failed | ldp7Failed | ldp8Failed | ldp9Failed | ldh1Failed | ldh2Failed | ldh3Failed | ldh4Failed
  | ldh5Failed | ldh6Failed | trigFailed | rdrawFailed =>
    exact (hs.transacted rfl).raise _
  | ldh4SecondFailed | ldh5SecondFailed => exact ((hs.readOk fun _ => rfl).transacted rfl).raise _
  | wrcfg0 | wrcfg1 | wrcfg2 => exact (hs.writeOk (allowedAccess_config _ _ _)).congr rfl rfl rfl
  | trig => exact (hs.writeOk rfl).congr rfl rfl rfl
  | ldt1 | ldt2 | ldt3 | ldp1 | ldp2 | ldp3 | ldp4 | ldp5 | ldp6 | ldp7 | ldp8 | ldp9 | ldh1 | ldh2 | ldh3 | ldh6
  | rdraw =>
    exact (hs.readOk fun _ => rfl).congr rfl rfl rfl
  | ldh4 | ldh5 => exact ((hs.readOk fun _ => rfl).readOk fun _ => rfl).congr rfl rfl rfl
  -- No transaction.
  | _ => exact hs.congr (by simp) (by simp) (by simp)

theorem BusInv.dispatched {s t : State} {w : Byte} (h : BusInv s) (hb : s.busy = false)
    (hd : presentCommand w s = .next t) : BusInv t := by
  rcases presentCommand_ran hb hd with ⟨-, -, rfl⟩ | ⟨-, -, rfl⟩ | ⟨-, rfl⟩ | ⟨-, -, rfl⟩
  · exact h.congr rfl rfl rfl
  · exact h.congr rfl rfl rfl
  · exact h.raise _
  · exact h.raise _

/-- Settles O45: by who moves; a reset leaves the bus side alone (R302, R303). -/
theorem stepKeepsBus : Obligations.StepKeepsBus := by
  intro s t h hstep
  cases step_moved hstep with
  | turn i _ _ ran => exact (h.outside (atTurn_outsideOnly s)).ran ran
  | dispatch w rest _ hb hd => exact (h.outside (dropEvent_outsideOnly s)).dispatched (by simpa using hb) hd
  | reset rest _ ht => exact ht ▸ h.congr (by simp) (by simp) (by simp)
  | outside o => exact h.outside o

end Sys2Proof.Machine

/-! PROOF. Every step keeps the data invariant (spec 10_state.md R23, R46; 41_commands.md R153; 70_reset_and_hazards.md
R308). Most of its clauses speak of a part of one sequence only, so there is one rule per part: idle, inside INIT, and
inside GET, where each clause comes into force with the micro-operation that writes its registers. -/

namespace Sys2Proof.Machine

theorem DataInv.outside {s t : State} (h : DataInv s) (o : OutsideOnly s t) : DataInv t := by
  obtain ⟨m, l, r, o, -, rfl⟩ := o
  exact ⟨h.sample, h.fineValue, h.humValue, h.presValue, h.results, h.nibbles, h.nibbleH4Loaded, h.nibbleH5Loaded⟩

/-- `CAL.H4` and `CAL.H5` in the range of R23. -/
def NibblesInRange (c : HumCal) : Prop := c.h4.toNat ≤ 4095 ∧ c.h5.toNat ≤ 4095

/-- The three results are those of the burst and the coefficients (R153). -/
def ResultsOfBurst (s : State) : Prop :=
  s.tOut = tOutOf s.calT s.rb ∧ s.hOut = hOutOf s.calT s.calH s.rb ∧ s.pOut = pOutOf s.calT s.calP s.rb

/-- The RawSample is that of the burst (R203). -/
def SampleOfBurst (s : State) : Prop := s.adcP = burstP s.rb ∧ s.adcT = burstT s.rb ∧ s.adcH = burstH s.rb

/-- `TFINE` and `T_OUT` are those of the burst (R211). -/
def FineOfBurst (s : State) : Prop := s.tfine = fineOf s.calT s.rb ∧ s.tOut = tOutOf s.calT s.rb

/-- While CORE idles, only published results and loaded coefficients are constrained. -/
theorem dataInv_of_idle {t : State} (hb : t.busy = false) (htfv : t.tfv = false)
    (hres : t.rvalid = true → ResultsOfBurst t) (hnib : t.lc = .ready → NibblesInRange t.calH) : DataInv t where
  sample h := by simp [hb] at h
  fineValue h := by simp [htfv] at h
  humValue h := by simp [hb] at h
  presValue h := by simp [hb] at h
  results := hres
  nibbles := hnib
  nibbleH4Loaded h := by simp [hb] at h
  nibbleH5Loaded h := by simp [hb] at h

/-- Inside INIT, only `CAL.H4` and `CAL.H5` are constrained, each once it is loaded. -/
theorem dataInv_of_init {t : State} (hp : t.phase ≤ 0x16#6) (htfv : t.tfv = false) (hv : t.rvalid = false)
    (hl : t.lc = .uninit) (h4 : 0x14#6 ≤ t.phase → t.calH.h4.toNat ≤ 4095)
    (h5 : 0x15#6 ≤ t.phase → t.calH.h5.toNat ≤ 4095) : DataInv t where
  sample _ h := by bv_omega
  fineValue h := by simp [htfv] at h
  humValue _ h := by bv_omega
  presValue _ h := by bv_omega
  results h := by simp [hv] at h
  nibbles h := by simp [hl] at h
  nibbleH4Loaded _ h _ := h4 h
  nibbleH5Loaded _ h _ := h5 h

/-- Inside GET, a register that a stage has written is the stage's function of the burst. -/
theorem dataInv_of_get {t : State} (hp : 0x20#6 ≤ t.phase) (hv : t.rvalid = false) (hnib : NibblesInRange t.calH)
    (hsample : 0x24#6 ≤ t.phase → SampleOfBurst t) (hfine : t.tfv = true → FineOfBurst t)
    (hhum : 0x26#6 ≤ t.phase → t.hOut = hOutOf t.calT t.calH t.rb)
    (hpres : t.phase = 0x27#6 → t.pOut = pOutOf t.calT t.calP t.rb) : DataInv t where
  sample _ h _ := hsample h
  fineValue := hfine
  humValue _ h _ := hhum h
  presValue _ := hpres
  results h := by simp [hv] at h
  nibbles _ := hnib
  nibbleH4Loaded _ _ h := by bv_omega
  nibbleH5Loaded _ _ h := by bv_omega

/-- A raised error ends the command and leaves the data registers and what was published (R273). -/
theorem DataInv.raise {s : State} (h : DataInv s) (e : CmdError) : DataInv (raise e s) :=
  dataInv_of_idle rfl rfl h.results h.nibbles

theorem DataInv.transacted {s : State} (h : DataInv s) (x : Transaction) : DataInv (transacted x s) :=
  ⟨h.sample, h.fineValue, h.humValue, h.presValue, h.results, h.nibbles, h.nibbleH4Loaded, h.nibbleH5Loaded⟩

theorem DataInv.readOk {s : State} (h : DataInv s) (a : Byte) (n : Nat) : DataInv (readOk a n s) :=
  ⟨h.sample, h.fineValue, h.humValue, h.presValue, h.results, h.nibbles, h.nibbleH4Loaded, h.nibbleH5Loaded⟩

/-- The flags inside INIT. -/
theorem ControlInv.flags_of_initPhase {s : State} {c : PhaseCode} (h : ControlInv s) (hb : s.busy = true)
    (hp : s.phase = c) (hc : initPhase c = true) : s.tfv = false ∧ s.rvalid = false ∧ s.lc = .uninit := by
  subst hp
  obtain ⟨-, hle⟩ := initPhase_iff.1 hc
  refine ⟨?_, h.rvalid_of_busy hb, ?_⟩
  · by_contra hf
    obtain ⟨-, hge, -⟩ := h.fine.1 (by simpa using hf)
    bv_omega
  · rcases h.running hb with ⟨-, hl⟩ | ⟨hg, -⟩
    · exact hl
    · obtain ⟨hge, -⟩ := getPhase_iff.1 hg
      bv_omega

/-- The flags inside GET. -/
theorem ControlInv.flags_of_getPhase {s : State} {c : PhaseCode} (h : ControlInv s) (hb : s.busy = true)
    (hp : s.phase = c) (hc : getPhase c = true) :
    (s.tfv = true ↔ 0x25#6 ≤ c) ∧ s.rvalid = false ∧ s.lc = .ready := by
  subst hp
  obtain ⟨hge, hle⟩ := getPhase_iff.1 hc
  refine ⟨by simp [h.fine, hb, hle], h.rvalid_of_busy hb, ?_⟩
  rcases h.running hb with ⟨hi, -⟩ | ⟨-, hl⟩
  · obtain ⟨-, hle⟩ := initPhase_iff.1 hi
    bv_omega
  · exact hl

/-! The three stages, each for any word that it could store, so that no comparison of states evaluates the stage. -/

theorem dataInv_putFine {s : State} {tf v : Word} (hv : s.rvalid = false) (hnib : NibblesInRange s.calH)
    (hsample : SampleOfBurst s) (htf : tf = fineOf s.calT s.rb) (htOut : v = tOutOf s.calT s.rb) :
    DataInv (goPhase 0x25#6 (putFine tf v s)) :=
  dataInv_of_get (by simp) hv hnib (fun _ => hsample) (fun _ => ⟨htf, htOut⟩) (by simp) (by simp)

theorem dataInv_putHOut {s : State} {v : Word} (hv : s.rvalid = false) (hnib : NibblesInRange s.calH)
    (hsample : SampleOfBurst s) (hfine : FineOfBurst s) (hhum : v = hOutOf s.calT s.calH s.rb) :
    DataInv (goPhase 0x26#6 (putHOut v s)) :=
  dataInv_of_get (by simp) hv hnib (fun _ => hsample) (fun _ => hfine) (fun _ => hhum) (by simp)

theorem dataInv_putPOut {s : State} {v : Word} (hv : s.rvalid = false) (hnib : NibblesInRange s.calH)
    (hsample : SampleOfBurst s) (hfine : FineOfBurst s) (hhum : s.hOut = hOutOf s.calT s.calH s.rb)
    (hpres : v = pOutOf s.calT s.calP s.rb) : DataInv (goPhase 0x27#6 (putPOut v s)) :=
  dataInv_of_get (by simp) hv hnib (fun _ => hsample) (fun _ => hfine) (fun _ => hhum) (fun _ => hpres)

theorem DataInv.cmpt {s : State} (hd : DataInv s) (hc : ControlInv s) (hb : s.busy = true) (hp : s.phase = 0x24#6) :
    DataInv (goPhase 0x25#6 (putFine (temperatureFine s.adcT s.calT)
      (temperatureResult (temperatureFine s.adcT s.calT)) s)) := by
  obtain ⟨-, hv, hl⟩ := hc.flags_of_getPhase hb hp rfl
  have hsample : SampleOfBurst s := hd.sample hb (by simp [hp]) (by simp [hp])
  have ⟨_, hadcT, _⟩ := hsample
  have hfine : temperatureFine s.adcT s.calT = fineOf s.calT s.rb := by rw [hadcT, fineOf]
  exact dataInv_putFine hv (hd.nibbles hl) hsample hfine (by rw [hfine, tOutOf])

theorem DataInv.cmph {s : State} (hd : DataInv s) (hc : ControlInv s) (hb : s.busy = true) (hp : s.phase = 0x25#6) :
    DataInv (goPhase 0x26#6 (putHOut (humidityStage s.adcH (tfineOperand s) s.calH) (chargeTfine s))) := by
  obtain ⟨htfv, hv, hl⟩ := hc.flags_of_getPhase hb hp rfl
  have hvalid : s.tfv = true := htfv.2 (by decide)
  have hsample : SampleOfBurst s := hd.sample hb (by simp [hp]) (by simp [hp])
  have hfine : FineOfBurst s := hd.fineValue hvalid
  have ⟨_, _, hadcH⟩ := hsample
  have ⟨htfine, _⟩ := hfine
  rw [tfineOperand_of_valid hvalid, chargeTfine_of_valid hvalid]
  exact dataInv_putHOut hv (hd.nibbles hl) hsample hfine (by rw [hadcH, htfine, hOutOf])

theorem DataInv.cmpp {s : State} (hd : DataInv s) (hc : ControlInv s) (hb : s.busy = true) (hp : s.phase = 0x26#6) :
    DataInv (goPhase 0x27#6 (putPOut (pressureStage s.adcP (tfineOperand s) s.calP) (chargeTfine s))) := by
  obtain ⟨htfv, hv, hl⟩ := hc.flags_of_getPhase hb hp rfl
  have hvalid : s.tfv = true := htfv.2 (by decide)
  have hsample : SampleOfBurst s := hd.sample hb (by simp [hp]) (by simp [hp])
  have hfine : FineOfBurst s := hd.fineValue hvalid
  have ⟨hadcP, _, _⟩ := hsample
  have ⟨htfine, _⟩ := hfine
  have hhum := hd.humValue hb (by simp [hp]) (by simp [hp])
  rw [tfineOperand_of_valid hvalid, chargeTfine_of_valid hvalid]
  exact dataInv_putPOut hv (hd.nibbles hl) hsample hfine hhum (by rw [hadcP, htfine, pOutOf])

/-- A micro-operation of the running command keeps the data invariant. -/
theorem DataInv.ran {s t : State} {i : Instr} (hd : DataInv s) (hc : ControlInv s) (hb : s.busy = true)
    (hi : encode i = .ph6 s.phase) (h : Ran s i t) : DataInv t := by
  cases h with
  | init | initRefused | get | getRefused => cases hi
  | idle => exact hd
  | wrcfg0Failed | wrcfg1Failed | wrcfg2Failed | ldt1Failed | ldt2Failed | ldt3Failed | ldp1Failed | ldp2Failed
  | ldp3Failed | ldp4Failed | ldp5Failed | ldp6Failed | ldp7Failed | ldp8Failed | ldp9Failed | ldh1Failed
  | ldh2Failed | ldh3Failed | ldh4Failed | ldh5Failed | ldh6Failed | trigFailed | rdrawFailed =>
    exact (hd.transacted _).raise _
  | ldh4SecondFailed | ldh5SecondFailed => exact ((hd.readOk _ _).transacted _).raise _
  -- INIT before LDH4 has completed.
  | wrcfg0 | wrcfg1 | wrcfg2 | ldt1 | ldt2 | ldt3 | ldp1 | ldp2 | ldp3 | ldp4 | ldp5 | ldp6 | ldp7 | ldp8 | ldp9
  | ldh1 | ldh2 | ldh3 =>
    obtain ⟨htfv, hv, hl⟩ := hc.flags_of_initPhase hb (CodeWord.ph6.inj hi).symm rfl
    exact dataInv_of_init (by simp) htfv hv hl (by simp) (by simp)
  | ldh4 =>
    obtain ⟨htfv, hv, hl⟩ := hc.flags_of_initPhase hb (CodeWord.ph6.inj hi).symm rfl
    exact dataInv_of_init (by simp) htfv hv hl (fun _ => toNat_nibbleH4_le _ _) (by simp)
  | ldh5 =>
    have hp := (CodeWord.ph6.inj hi).symm
    obtain ⟨htfv, hv, hl⟩ := hc.flags_of_initPhase hb hp rfl
    exact dataInv_of_init (by simp) htfv hv hl (fun _ => hd.nibbleH4Loaded hb (by simp [hp]) (by simp [hp]))
      (fun _ => toNat_nibbleH5_le _ _)
  | ldh6 =>
    have hp := (CodeWord.ph6.inj hi).symm
    obtain ⟨htfv, hv, hl⟩ := hc.flags_of_initPhase hb hp rfl
    exact dataInv_of_init (by simp) htfv hv hl (fun _ => hd.nibbleH4Loaded hb (by simp [hp]) (by simp [hp]))
      (fun _ => hd.nibbleH5Loaded hb (by simp [hp]) (by simp [hp]))
  | rdy =>
    have hp := (CodeWord.ph6.inj hi).symm
    obtain ⟨htfv, hv, -⟩ := hc.flags_of_initPhase hb hp rfl
    exact dataInv_of_idle rfl htfv (fun h => by simp [hv] at h) fun _ =>
      ⟨hd.nibbleH4Loaded hb (by simp [hp]) (by simp [hp]), hd.nibbleH5Loaded hb (by simp [hp]) (by simp [hp])⟩
  -- GET before UNPK has completed.
  | trig | wait | rdraw =>
    obtain ⟨htfv, hv, hl⟩ := hc.flags_of_getPhase hb (CodeWord.ph6.inj hi).symm rfl
    exact dataInv_of_get (by simp) hv (hd.nibbles hl) (by simp) (fun h => by simpa using htfv.1 h) (by simp) (by simp)
  | unpk =>
    obtain ⟨htfv, hv, hl⟩ := hc.flags_of_getPhase hb (CodeWord.ph6.inj hi).symm rfl
    exact dataInv_of_get (by simp) hv (hd.nibbles hl) (fun _ => ⟨rfl, rfl, rfl⟩) (fun h => by simpa using htfv.1 h)
      (by simp) (by simp)
  | cmpt => exact hd.cmpt hc hb (CodeWord.ph6.inj hi).symm
  | cmph => exact hd.cmph hc hb (CodeWord.ph6.inj hi).symm
  | cmpp => exact hd.cmpp hc hb (CodeWord.ph6.inj hi).symm
  | out =>
    have hp := (CodeWord.ph6.inj hi).symm
    obtain ⟨htfv, -, hl⟩ := hc.flags_of_getPhase hb hp rfl
    have htOut := (hd.fineValue (htfv.2 (by decide))).2
    exact dataInv_of_idle rfl rfl (fun _ => ⟨htOut, hd.humValue hb (by simp [hp]) (by simp [hp]), hd.presValue hb hp⟩)
      fun _ => hd.nibbles hl

theorem DataInv.dispatched {s t : State} {w : Byte} (hd : DataInv s) (hc : ControlInv s) (hb : s.busy = false)
    (h : presentCommand w s = .next t) : DataInv t := by
  rcases presentCommand_ran hb h with ⟨-, hl, rfl⟩ | ⟨-, hl, rfl⟩ | ⟨-, rfl⟩ | ⟨-, -, rfl⟩
  · have hv : s.rvalid = false := by
      by_contra hv
      simp [(hc.valid (by simpa using hv)).1] at hl
    exact dataInv_of_init (by simp) (hc.tfv_of_idle hb) hv hl (by simp) (by simp)
  · exact dataInv_of_get (by simp) rfl (hd.nibbles hl) (by simp) (by simp) (by simp) (by simp)
  · exact hd.raise _
  · exact hd.raise _

/-- Settles O44: by who moves; after a reset no clause is in force (R300). -/
theorem stepKeepsData : Obligations.StepKeepsData := by
  intro s t hc hd hstep
  cases step_moved hstep with
  | turn i hb hi ran =>
    have o := atTurn_outsideOnly s
    exact (hd.outside o).ran (hc.outside o) (by simpa using hb) (by simpa using hi) ran
  | dispatch w rest _ hb h =>
    have o := dropEvent_outsideOnly s
    exact (hd.outside o).dispatched (hc.outside o) (by simpa using hb) h
  | reset rest _ ht =>
    subst ht
    exact dataInv_of_idle rfl rfl (by simp) (by simp)
  | outside o => exact hd.outside o

end Sys2Proof.Machine

/-! PROOF. The writes of the configuration registers (spec 42_calibration_ingest.md R170 to R172; 43_raw_sample.md R200):
one rule for an instruction that writes one byte; each of the four is such a write. -/

namespace Sys2Proof.Machine

theorem writeThen_of_ok {s : State} (a v : Byte) (k : State → Outcome) (h : nextAnswer s = .ok) :
    writeThen a v k s = k (afterWrite s a v) := by
  rcases writeThen_cases a v k s with ⟨-, e⟩ | ⟨hfail, -⟩
  · exact e
  · simp [h] at hfail

theorem writeThen_of_fail {s : State} (a v : Byte) (k : State → Outcome) (h : nextAnswer s = .fail) :
    writeThen a v k s = .next (afterFailedWrite s a v) := by
  rcases writeThen_cases a v k s with ⟨hok, -⟩ | ⟨-, e⟩
  · simp [h] at hok
  · exact e

theorem registerWrite_of_writeThen {i : Instr} {code next : PhaseCode} {a v : State → Byte}
    (hcode : encode i = .ph6 code)
    (hexec : ∀ s, exec i s = writeThen (a s) (v s) (fun u => .next (goPhase next u)) s) :
    RegisterWrite i code a v next :=
  ⟨hcode, fun s => ⟨fun hok => (hexec s).trans (writeThen_of_ok _ _ _ hok),
    fun hfail => (hexec s).trans (writeThen_of_fail _ _ _ hfail)⟩⟩

theorem registerWrite_wrcfg0 : RegisterWrite .wrcfg0 0x01#6 (fun s => cfgAddr (cfgFirst s.params.cfgOrder))
    (fun s => cfgByte s.params (cfgFirst s.params.cfgOrder)) 0x02#6 :=
  registerWrite_of_writeThen rfl fun _ => rfl

theorem registerWrite_wrcfg1 : RegisterWrite .wrcfg1 0x02#6 (fun s => cfgAddr (cfgSecond s.params.cfgOrder))
    (fun s => cfgByte s.params (cfgSecond s.params.cfgOrder)) 0x03#6 :=
  registerWrite_of_writeThen rfl fun _ => rfl

theorem registerWrite_wrcfg2 : RegisterWrite .wrcfg2 0x03#6 (fun s => cfgAddr (cfgThird s.params.cfgOrder))
    (fun s => cfgByte s.params (cfgThird s.params.cfgOrder)) 0x04#6 :=
  registerWrite_of_writeThen rfl fun _ => rfl

theorem registerWrite_trig : RegisterWrite .trig 0x20#6 (fun _ => 0xF4#8) (fun s => s.params.cfgCtrlForced) 0x21#6 :=
  registerWrite_of_writeThen rfl fun _ => rfl

/-- `CFG_ORDER` names each of the three registers once (R5). -/
theorem cfgOrder_perm (o : CfgOrder) : [cfgFirst o, cfgSecond o, cfgThird o].Perm [.filter, .ctrl, .hum] := by
  cases o <;> decide

/-- Settles O10: the three writes, and the tables of registers and bytes as they stand. -/
theorem configurationWritesOfInit : Obligations.ConfigurationWritesOfInit :=
  ⟨registerWrite_wrcfg0, registerWrite_wrcfg1, registerWrite_wrcfg2, cfgOrder_perm, rfl, fun _ => ⟨rfl, rfl, rfl⟩⟩

/-- The offset between the two bytes is 1 to 255, so it is not 0 modulo 256 (R5). -/
theorem cfgCtrlForced_ne_cfgCtrlIdle : Config.cfgCtrlForced ≠ Config.cfgCtrlIdle := by
  intro h
  have hlt := Config.cfgForcedOffset.isLt
  have hzero : BitVec.ofNat 8 (Config.cfgForcedOffset.val + 1) = 0#8 := by simpa [Config.cfgCtrlForced] using h
  have hmod := congrArg BitVec.toNat hzero
  simp only [BitVec.toNat_ofNat] at hmod
  omega

/-- Settles O11: the write, and the constraint of R5 on the parameters after reset. -/
theorem triggerWritesTheForcedByte : Obligations.TriggerWritesTheForcedByte :=
  ⟨registerWrite_trig, cfgCtrlForced_ne_cfgCtrlIdle⟩

/-- A write that succeeds leaves its byte in the register (R66). -/
theorem RegisterWrite.lookup_of_ok {i : Instr} {code next : PhaseCode} {a v : State → Byte}
    (h : RegisterWrite i code a v next) {s : State} (hok : nextAnswer s = .ok) :
    ∃ t, exec i s = .next t ∧ t.sensor.lookup (a s).toNat = some (v s) := by
  obtain ⟨-, hwrite⟩ := h
  exact ⟨_, (hwrite s).1 hok, lookup_write_same _ _ _⟩

end Sys2Proof.Machine

/-! PROOF. The access table (spec 10_state.md R44): what each instruction leaves unchanged, register by register, flag
by flag, and in the sensor's registers (20_memory.md R61, R62). -/

namespace Sys2Proof.Machine

/-! A load changes its own coefficient and no other one; every other instruction keeps the whole group. -/

theorem Ran.calT_kept {s t : State} {i : Instr} (h : Ran s i t) :
    (i ≠ .ldt1 → t.calT.t1 = s.calT.t1) ∧ (i ≠ .ldt2 → t.calT.t2 = s.calT.t2) ∧
      (i ≠ .ldt3 → t.calT.t3 = s.calT.t3) := by
  cases h <;> simp

theorem Ran.calP_kept {s t : State} {i : Instr} (h : Ran s i t) :
    (i ≠ .ldp1 → t.calP.p1 = s.calP.p1) ∧ (i ≠ .ldp2 → t.calP.p2 = s.calP.p2) ∧
      (i ≠ .ldp3 → t.calP.p3 = s.calP.p3) ∧ (i ≠ .ldp4 → t.calP.p4 = s.calP.p4) ∧
      (i ≠ .ldp5 → t.calP.p5 = s.calP.p5) ∧ (i ≠ .ldp6 → t.calP.p6 = s.calP.p6) ∧
      (i ≠ .ldp7 → t.calP.p7 = s.calP.p7) ∧ (i ≠ .ldp8 → t.calP.p8 = s.calP.p8) ∧
      (i ≠ .ldp9 → t.calP.p9 = s.calP.p9) := by
  cases h <;> simp

theorem Ran.calH_kept {s t : State} {i : Instr} (h : Ran s i t) :
    (i ≠ .ldh1 → t.calH.h1 = s.calH.h1) ∧ (i ≠ .ldh2 → t.calH.h2 = s.calH.h2) ∧
      (i ≠ .ldh3 → t.calH.h3 = s.calH.h3) ∧ (i ≠ .ldh4 → t.calH.h4 = s.calH.h4) ∧
      (i ≠ .ldh5 → t.calH.h5 = s.calH.h5) ∧ (i ≠ .ldh6 → t.calH.h6 = s.calH.h6) := by
  cases h <;> simp

theorem Ran.sample_kept {s t : State} {i : Instr} (h : Ran s i t) :
    (i ≠ .rdraw → t.rb = s.rb) ∧ (i ≠ .unpk → t.adcP = s.adcP ∧ t.adcT = s.adcT ∧ t.adcH = s.adcH) := by
  cases h with
  | rdraw => exact ⟨fun hne => absurd rfl hne, fun _ => by simp⟩
  | unpk => exact ⟨fun _ => by simp, fun hne => absurd rfl hne⟩
  | _ => exact ⟨fun _ => by simp, fun _ => by simp⟩

theorem Ran.results_kept {s t : State} {i : Instr} (h : Ran s i t) :
    (i ≠ .cmpt → t.tfine = s.tfine ∧ t.tOut = s.tOut) ∧ (i ≠ .cmph → t.hOut = s.hOut) ∧
      (i ≠ .cmpp → t.pOut = s.pOut) := by
  cases h with
  | cmpt => exact ⟨fun hne => absurd rfl hne, fun _ => by simp, fun _ => by simp⟩
  | cmph => exact ⟨fun _ => by simp, fun hne => absurd rfl hne, fun _ => by simp⟩
  | cmpp => exact ⟨fun _ => by simp, fun _ => by simp, fun hne => absurd rfl hne⟩
  | _ => exact ⟨fun _ => by simp, fun _ => by simp, fun _ => by simp⟩

theorem Ran.sameOutside {s t : State} {i : Instr} (h : Ran s i t) : SameOutside s t := by
  cases h <;> exact ⟨by simp, by simp, by simp⟩

/-- Settles O39: group by group. -/
theorem onlyTheTableWritesRegisters : Obligations.OnlyTheTableWritesRegisters := by
  intro i s t h
  have ran := exec_ran h
  obtain ⟨t1, t2, t3⟩ := ran.calT_kept
  obtain ⟨p1, p2, p3, p4, p5, p6, p7, p8, p9⟩ := ran.calP_kept
  obtain ⟨h1, h2, h3, h4, h5, h6⟩ := ran.calH_kept
  obtain ⟨rb, adc⟩ := ran.sample_kept
  obtain ⟨tfine, hOut, pOut⟩ := ran.results_kept
  exact ⟨⟨t1, t2, t3, p1, p2, p3, p4, p5, p6, p7, p8, p9, h1, h2, h3, h4, h5, h6⟩, rb, adc, tfine, hOut, pOut,
    ran.sameOutside⟩

/-- Settles O40: the instructions with a flag of their own one by one, a raised error once, and no flag elsewhere. -/
theorem flagsChangeOnlyAsListed : Obligations.FlagsChangeOnlyAsListed := by
  intro i s t h
  cases exec_ran h with
  | initRefused | getRefused | wrcfg0Failed | wrcfg1Failed | wrcfg2Failed | ldt1Failed | ldt2Failed | ldt3Failed
  | ldp1Failed | ldp2Failed | ldp3Failed | ldp4Failed | ldp5Failed | ldp6Failed | ldp7Failed | ldp8Failed
  | ldp9Failed | ldh1Failed | ldh2Failed | ldh3Failed | ldh4Failed | ldh4SecondFailed | ldh5Failed
  | ldh5SecondFailed | ldh6Failed | trigFailed | rdrawFailed =>
    have hr := raised_raise
    exact ⟨.inl (by simp), .inl (by simp), .inr (.inr (.inr (hr _ _))), .inr (.inr (.inr (hr _ _))),
      .inr (.inr (hr _ _)), .inr (hr _ _)⟩
  | init | get | rdy | cmpt | out => simp
  | _ =>
    exact ⟨.inl (by simp), .inl (by simp), .inl (by simp), .inl (by simp), .inl (by simp), .inl (by simp)⟩

/-- No instruction but the four writes changes a register of the sensor. -/
theorem Ran.lookup_kept {s t : State} {i : Instr} {a : Nat} (h : Ran s i t)
    (h0 : i = .wrcfg0 → a ≠ (cfgAddr (cfgFirst s.params.cfgOrder)).toNat)
    (h1 : i = .wrcfg1 → a ≠ (cfgAddr (cfgSecond s.params.cfgOrder)).toNat)
    (h2 : i = .wrcfg2 → a ≠ (cfgAddr (cfgThird s.params.cfgOrder)).toNat) (hf : i = .trig → a ≠ 0xF4) :
    t.sensor.lookup a = s.sensor.lookup a := by
  cases h with
  | wrcfg0 => exact lookup_write_other _ _ _ _ (h0 rfl)
  | wrcfg1 => exact lookup_write_other _ _ _ _ (h1 rfl)
  | wrcfg2 => exact lookup_write_other _ _ _ _ (h2 rfl)
  | trig => exact lookup_write_other _ _ _ _ (hf rfl)
  | _ => simp

/-- Settles O41: the frame of every instruction, and the four writes where they succeed. -/
theorem onlyConfigurationWritesTouchMemory : Obligations.OnlyConfigurationWritesTouchMemory :=
  ⟨fun _ _ _ _ h => (exec_ran h).lookup_kept, fun _ hok => ⟨registerWrite_wrcfg0.lookup_of_ok hok,
    registerWrite_wrcfg1.lookup_of_ok hok, registerWrite_wrcfg2.lookup_of_ok hok, registerWrite_trig.lookup_of_ok hok⟩⟩

end Sys2Proof.Machine

/-! PROOF. Reset, the codes written out, and dispatch (spec 10_state.md section 8; 30_encoding.md; 41_commands.md R150,
R154; 70_reset_and_hazards.md R300). -/

namespace Sys2Proof.Machine

/-- Settles O1: the fields of the reset state. -/
theorem resetLeavesControlState : Obligations.ResetLeavesControlState :=
  ⟨rfl, rfl, rfl, rfl, rfl, rfl, rfl, statusLayout.2⟩

/-- Settles O4: the tables at the codes written out. -/
theorem decodesWrittenOutCodes : Obligations.DecodesWrittenOutCodes :=
  ⟨rfl, rfl, rfl, rfl, rfl, rfl, rfl, rfl, rfl, rfl, rfl, rfl, rfl, rfl⟩

theorem step_reset {s : State} {rest : List Event} (hs : s.script = .reset :: rest) :
    step s = .next (assertReset (dropEvent s)) := by
  simp [step, sequencerStep, hs]

/-- Draws with numbers from d on are unspecified values of the environment. -/
theorem unspecified_of_mem_draws {w d : Nat} (ks : List Nat) {v : BitVec w}
    (h : v ∈ ks.map fun k => Config.unspecified w (d + k)) : ∃ n, d ≤ n ∧ v = Config.unspecified w n := by
  obtain ⟨k, -, rfl⟩ := List.mem_map.1 h
  exact ⟨d + k, Nat.le_add_right d k, rfl⟩

/-- Settles O2: the flags and the frame of the reset, and each data register as the draw that `forgetData` takes for
it. -/
theorem resetEventForgetsData : Obligations.ResetEventForgetsData := by
  intro s rest hs
  refine ⟨_, step_reset hs, by simp, by simp, by simp, by simp, by simp, by simp, by simp, by simp [hs], by simp,
    by simp, by simp, by simp, by simp, fun v hv => ?half, fun v hv => ?byte, fun v hv => ?code, fun v hv => ?word⟩
  case half => exact unspecified_of_mem_draws [0, 1, 2, 3, 4, 5, 6, 7, 8, 9, 10, 11, 13, 15, 16, 28] hv
  case byte => exact unspecified_of_mem_draws [12, 14, 17, 18, 19, 20, 21, 22, 23, 24, 25] hv
  case code => exact unspecified_of_mem_draws [26, 27] hv
  case word => exact unspecified_of_mem_draws [29, 30, 31, 32] hv

/-- Settles O42: every clause is about a flag that is clear, or about an empty list. -/
theorem resetStateIsSound : Obligations.ResetStateIsSound where
  control := controlInv_of_idle rfl rfl rfl (by simp [State.reset]) (by simp [State.reset])
  data := dataInv_of_idle rfl rfl (by simp [State.reset]) (by simp [State.reset])
  bus := ⟨reset_sensor_wf, rfl, bne_iff_ne.2 cfgCtrlForced_ne_cfgCtrlIdle⟩

theorem dropEvent_eq {s : State} {e : Event} {rest : List Event} (hs : s.script = e :: rest) :
    dropEvent s = { s with script := rest } := by
  rw [dropEvent, hs, List.tail_cons]

theorem coreTurn_of_busy {s : State} {i : Instr} (hb : s.busy = true) (hd : decodePhase s.phase = .ok i) :
    coreTurn s = exec i s := by
  simp [coreTurn, hb, hd]

theorem coreTurn_of_idle {s : State} (hb : s.busy = false) : coreTurn s = .next s := by
  rw [coreTurn, hb]
  rfl

/-- While BUSY = 1 the host waits, with a command or for the end of one, and CORE moves (R150). -/
theorem step_of_waiting {s : State} (hb : s.busy = true)
    (hs : s.script = [] ∨ (∃ w rest, s.script = .command w :: rest) ∨ ∃ rest, s.script = .awaitIdle :: rest) :
    step s = coreTurn s := by
  rcases hs with hs | ⟨w, rest, hs⟩ | ⟨rest, hs⟩ <;> simp [step, sequencerStep, hs, hb]

/-- CORE's event gives it one turn (R17). -/
theorem step_core {s : State} {rest : List Event} (hs : s.script = .core :: rest) :
    step s = coreTurn (dropEvent s) := by
  simp [step, sequencerStep, hs]

/-- Settles O5: a turn of a busy CORE, or the dispatch of a word. -/
theorem stepRunsTheDecodedInstruction : Obligations.StepRunsTheDecodedInstruction := by
  refine ⟨fun s i hb hd => ⟨fun hs => ?_, fun rest hs => ?_⟩, fun s i w rest hb hs hd => ?_⟩
  · rw [step_of_waiting hb hs, coreTurn_of_busy hb hd]
  · rw [step_core hs, coreTurn_of_busy (s := dropEvent s) hb hd, dropEvent_eq hs]
  · rw [step_command_of_idle hb hs, dropEvent_eq hs, presentCommand, hd]

/-- Settles O6: while BUSY = 0 CORE's turn is IDLE's, which changes nothing. -/
theorem idleChangesNothing : Obligations.IdleChangesNothing := by
  refine ⟨fun _ => rfl, fun s hb hs => ?_, fun s rest hb hs => ?_⟩
  · have hturn : step s = coreTurn s := by simp [step, sequencerStep, hs]
    rw [hturn, coreTurn_of_idle hb]
  · rw [step_core hs, coreTurn_of_idle (s := dropEvent s) hb, dropEvent_eq hs]

/-- INIT accepted (R150). -/
theorem exec_init_of_uninit {s : State} (hb : s.busy = false) (hl : s.lc = .uninit) :
    exec .init s = .next { s with busy := true, phase := 0x01#6 } := by
  rcases execInit_cases s hb with ⟨-, e⟩ | ⟨hr, -⟩
  · exact e
  · simp [hl] at hr

/-- GET accepted (R150). -/
theorem exec_get_of_ready {s : State} (hb : s.busy = false) (hl : s.lc = .ready) :
    exec .get s = .next { s with busy := true, phase := 0x20#6, rvalid := false, tfv := false } := by
  rcases execGet_cases s hb with ⟨-, e⟩ | ⟨hu, -⟩
  · exact e
  · simp [hl] at hu

/-- Settles O8: the accepting arms of the two commands. -/
theorem initAndGetAreAccepted : Obligations.InitAndGetAreAccepted :=
  ⟨fun _ => exec_init_of_uninit, fun _ => exec_get_of_ready⟩

theorem exec_init_of_busy {s : State} (hb : s.busy = true) : exec .init s = .refused .commandPortBusy := if_pos hb

theorem exec_get_of_busy {s : State} (hb : s.busy = true) : exec .get s = .refused .commandPortBusy := if_pos hb

/-- A command that waits is left in the script by the micro-operation that runs instead (R150). -/
theorem step_keeps_waiting_command {s t : State} {w : Byte} {rest : List Event} (hb : s.busy = true)
    (hs : s.script = .command w :: rest) (h : step s = .next t) : t.script = s.script := by
  rw [step_of_waiting hb (.inr (.inl ⟨w, rest, hs⟩))] at h
  rcases coreTurn_cases s with ⟨hidle, -⟩ | ⟨-, i, -, e⟩ | ⟨-, -, e⟩
  · simp [hb] at hidle
  · obtain ⟨-, hscript, -⟩ := (exec_ran (e.symm.trans h)).sameOutside
    exact hscript
  · cases e.symm.trans h

/-- Settles O7: the four arms of dispatch, the two refusals, and the waiting command. -/
theorem dispatchFollowsTheTable : Obligations.DispatchFollowsTheTable := by
  refine ⟨fun s w rest hb hs => ?_, fun s hb => ⟨exec_init_of_busy hb, exec_get_of_busy hb⟩,
    fun s t w rest => step_keeps_waiting_command⟩
  rw [step_command_of_idle hb hs, dropEvent_eq hs]
  rcases presentCommand_cases w { s with script := rest } hb with
    ⟨rfl, hl, e⟩ | ⟨rfl, hl, e⟩ | ⟨hw, e⟩ | ⟨h1, h2, e⟩
  · rw [e, if_pos ⟨rfl, hl⟩]; rfl
  · rw [e, if_neg (by simp), if_pos ⟨rfl, hl⟩]; rfl
  · have hnot : ¬ (w = 0x01#8 ∧ s.lc = .uninit) ∧ ¬ (w = 0x02#8 ∧ s.lc = .ready) := by
      rcases hw with ⟨rfl, hl⟩ | ⟨rfl, hl⟩ <;> simp_all
    rw [e, if_neg hnot.1, if_neg hnot.2, if_pos (hw.imp And.left And.left)]; rfl
  · rw [e, if_neg (by simp [h1]), if_neg (by simp [h2]), if_neg (by simp [h1, h2])]; rfl

end Sys2Proof.Machine

/-! PROOF. What a step can do to the machine's lifecycle, its coefficients and its error code, and that it always comes
(spec 10_state.md R20, R24, R35, R43; 30_encoding.md R95; 60_exceptions.md R270 to R282). -/

namespace Sys2Proof.Machine

/-- CORE's turn has a next state wherever the control invariant holds: PHASE holds a code of a sequence (R34, R154). -/
theorem ControlInv.coreTurn_completes {s : State} (h : ControlInv s) : ∃ t, coreTurn s = .next t := by
  rcases coreTurn_cases s with ⟨-, e⟩ | ⟨-, i, hd, e⟩ | ⟨hb, ⟨_, hd⟩, -⟩
  · exact ⟨s, e⟩
  · rw [e]
    exact exec_completes_of_phaseCode (decodePhase_code hd) s
  · obtain ⟨i, hi⟩ := decodePhase_sequence (h.sequence hb)
    cases hd.symm.trans hi

/-- Dispatch has a next state for every word (R150, R271, R272). -/
theorem presentCommand_completes (w : Byte) {s : State} (hb : s.busy = false) : ∃ t, presentCommand w s = .next t := by
  rcases presentCommand_cases w s hb with ⟨-, -, e⟩ | ⟨-, -, e⟩ | ⟨-, e⟩ | ⟨-, -, e⟩ <;> exact ⟨_, e⟩

theorem ControlInv.step_completes {s : State} (h : ControlInv s) : ∃ t, step s = .next t := by
  rcases step_cases s with ⟨-, e⟩ | ⟨w, _, -, hb, e⟩ | ⟨_, -, -, e⟩ | ⟨_, -, e⟩ | ⟨_, -, e⟩ | ⟨_, _, -, e⟩ |
    ⟨_, _, _, -, e⟩ | ⟨_, _, -, e⟩ | ⟨-, e⟩ | ⟨_, _, -, e⟩
  case inl => exact e ▸ (h.outside (atTurn_outsideOnly s)).coreTurn_completes
  case inr.inl => exact e ▸ presentCommand_completes w (by simpa using hb)
  all_goals exact ⟨_, e⟩

/-- Settles O46: progress by who moves, and the refusal of an unused code by its decoding. -/
theorem soundStatesAlwaysStep : Obligations.SoundStatesAlwaysStep := by
  refine ⟨fun s => ControlInv.step_completes, fun s hb hs hunused => ?_⟩
  have hd : decodePhase s.phase = .error (.unusedPhase s.phase) := (decodePhase_eq_unused_iff _).1 hunused
  rw [step_of_waiting hb (.inl hs), coreTurn, if_pos hb, hd]

theorem Ended.lc_kept_or_ready {s t : State} {c : PhaseCode} (h : Ended s c t) :
    t.lc = s.lc ∨ (c = 0x16#6 ∧ t.lc = .ready) := by
  cases h with
  | idled _ ht => exact .inl (by rw [ht])
  | wentOn _ _ _ lc => exact .inl lc
  | ready hc ht => exact .inr ⟨hc, by rw [ht]; rfl⟩
  | published _ ht => exact .inl (by rw [ht]; rfl)
  | failed _ _ _ _ lc => exact .inl lc

/-- Settles O47: only RDY among the micro-operations writes LC, and dispatch writes neither LC nor the parameters. -/
theorem lifecycleMovesOnlyByRdyAndReset : Obligations.LifecycleMovesOnlyByRdyAndReset := by
  intro s t h
  cases step_moved h with
  | turn i hb hi ran =>
    obtain ⟨hparams, -, -⟩ := ran.sameOutside
    refine ⟨fun hne => .inl ?_, by simpa using hparams⟩
    rcases (ran.ended (by simpa using hi)).lc_kept_or_ready with hkept | ⟨hc, hready⟩
    · exact absurd (by simpa using hkept) hne
    · exact ⟨hready, hb, hc⟩
  | dispatch w rest _ hb hd =>
    have hkept : t.lc = s.lc ∧ t.params = s.params := by
      rcases presentCommand_ran (by simpa using hb) hd with ⟨-, -, rfl⟩ | ⟨-, -, rfl⟩ | ⟨-, rfl⟩ | ⟨-, -, rfl⟩ <;> simp
    exact ⟨fun hne => absurd hkept.1 hne, hkept.2⟩
  | reset rest hs ht =>
    subst ht
    exact ⟨fun _ => .inr ⟨by simp, rest, hs⟩, by simp⟩
  | outside o =>
    obtain ⟨m, l, r, o, -, rfl⟩ := o
    exact ⟨fun hne => absurd rfl hne, rfl⟩

/-- No micro-operation of GET loads a coefficient (R157). -/
theorem Ran.sameCal_of_getPhase {s t : State} {i : Instr} {c : PhaseCode} (h : Ran s i t) (hi : encode i = .ph6 c)
    (hc : getPhase c = true) : SameCal s t := by
  cases h with
  | ldt1 | ldt2 | ldt3 | ldp1 | ldp2 | ldp3 | ldp4 | ldp5 | ldp6 | ldp7 | ldp8 | ldp9 | ldh1 | ldh2 | ldh3 | ldh4
  | ldh5 | ldh6 =>
    cases hi
    exact absurd hc (by decide)
  | _ => exact ⟨by simp, by simp, by simp⟩

/-- Settles O48: while READY, the running command is a GET. -/
theorem coefficientsAreImmutableWhenReady : Obligations.CoefficientsAreImmutableWhenReady := by
  intro s t hinv hl hr h
  cases step_moved h with
  | turn i hb hi ran =>
    have hget : getPhase s.phase = true := by
      rcases hinv.running hb with ⟨-, hu⟩ | ⟨hget, -⟩
      · simp [hl] at hu
      · exact hget
    obtain ⟨l, e⟩ := atTurn_eq s
    rw [e] at ran
    exact ran.sameCal_of_getPhase hi hget
  | dispatch w rest _ hb hd =>
    rcases presentCommand_ran (by simpa using hb) hd with ⟨-, -, rfl⟩ | ⟨-, -, rfl⟩ | ⟨-, rfl⟩ | ⟨-, -, rfl⟩ <;>
      exact ⟨rfl, rfl, rfl⟩
  | reset rest hs _ => exact absurd hs (hr rest)
  | outside o =>
    obtain ⟨m, l, r, o, -, rfl⟩ := o
    exact ⟨rfl, rfl, rfl⟩

/-- A micro-operation changes ERR to 3 after a failed transaction, or to 0 at the end of its sequence. -/
theorem Ended.err_cases {s t : State} {c : PhaseCode} (h : Ended s c t) :
    t.err = s.err ∨ (t.err = 3#2 ∧ BusPhase c ∧ FailInStore s) ∨ (t.err = 0#2 ∧ (c = 0x16#6 ∨ c = 0x27#6)) := by
  cases h with
  | idled _ ht => exact .inl (by rw [ht])
  | wentOn _ _ _ _ _ err => exact .inl err
  | ready hc ht => exact .inr (.inr ⟨by rw [ht]; rfl, .inl hc⟩)
  | published hc ht => exact .inr (.inr ⟨by rw [ht]; rfl, .inr hc⟩)
  | failed hc fail _ err => exact .inr (.inl ⟨err, hc, fail⟩)

/-- Settles O50: each mover changes ERR in the ways listed, to one known code in each. -/
theorem errorsComeFromTheirCauses : Obligations.ErrorsComeFromTheirCauses := by
  intro s t h hne
  cases step_moved h with
  | turn i hb hi ran =>
    rcases (ran.ended (by simpa using hi)).err_cases with hkept | ⟨herr, hc, hfail⟩ | ⟨herr, hc⟩
    · exact absurd (by simpa using hkept) hne
    · have hfail' : FailInStore s := by simpa [FailInStore, nextAnswer] using hfail
      exact ⟨by simp [herr], by simp [herr], fun _ => ⟨hb, hc, hfail'⟩, by simp [herr]⟩
    · exact ⟨by simp [herr], by simp [herr], by simp [herr], fun _ => .inr ⟨hb, hc⟩⟩
  | dispatch w rest hs hb hd =>
    rcases presentCommand_ran (by simpa using hb) hd with ⟨-, -, rfl⟩ | ⟨-, -, rfl⟩ | ⟨hw, rfl⟩ | ⟨h1, h2, rfl⟩
    · exact absurd rfl hne
    · exact absurd rfl hne
    · simpa [errorCode, hb, hs] using hw
    · simpa [errorCode, hb, hs] using ⟨h1, h2⟩
  | reset rest hs ht =>
    have herr : t.err = 0#2 := by rw [ht]; simp
    simp [herr, hs]
  | outside o =>
    obtain ⟨m, l, r, o, -, rfl⟩ := o
    exact absurd rfl hne

end Sys2Proof.Machine

/-! PROOF. The events of the sensor and of the transport (spec 20_memory.md R76; 30_encoding.md R111;
70_reset_and_hazards.md R314). -/

namespace Sys2Proof.Machine

theorem step_sensor {s : State} {a : Byte} {v : Option Byte} {rest : List Event} (hs : s.script = .sensor a v :: rest) :
    step s = .next (sensorActs a v (dropEvent s)) := by
  simp [step, sequencerStep, hs]

theorem step_failNth {s : State} {k : Nat} {rest : List Event} (hs : s.script = .failNth k :: rest) :
    step s = .next { s with script := rest, transport := failNth k s.transport } := by
  have hstep : step s = .next (transportWillFail k (dropEvent s)) := by simp [step, sequencerStep, hs]
  rw [hstep, transportWillFail, dropEvent_eq hs]

/-- The sensor's list after its act: the register's content fixed, or fixed no longer (R76). -/
def actedMemory (m : Memory) (a : Byte) : Option Byte → Memory
  | some b => m.write a.toNat b
  | none => m.forget a.toNat

theorem sensorActs_eq_actedMemory (a : Byte) (v : Option Byte) (s : State) :
    sensorActs a v s = { s with sensor := actedMemory s.sensor a v } := by
  cases v <;> rfl

theorem wf_actedMemory {m : Memory} (a : Byte) (v : Option Byte) (h : m.wf = true) : (actedMemory m a v).wf = true := by
  cases v with
  | none => exact wf_forget _ h
  | some b => exact wf_write _ _ h

theorem lookup_actedMemory_same {m : Memory} (a : Byte) (v : Option Byte) (h : m.wf = true) :
    (actedMemory m a v).lookup a.toNat = v := by
  cases v with
  | none =>
    simp only [Memory.wf, Bool.and_eq_true] at h
    exact lookup_forget_same _ h.1
  | some b => exact lookup_write_same _ _ _

theorem lookup_actedMemory_other (m : Memory) (a : Byte) (v : Option Byte) {b : Nat} (h : b ≠ a.toNat) :
    (actedMemory m a v).lookup b = m.lookup b := by
  cases v with
  | none => exact lookup_forget_other _ _ _ h
  | some c => exact lookup_write_other _ _ _ _ h

/-- `.fail k` marks the k-th answer and no other one, also past the end of the list, where every answer is Ok. -/
theorem getD_failNth (k : Nat) (t : List BusAnswer) (j : Nat) :
    (failNth (k + 1) t).getD j .ok = if j = k then .fail else t.getD j .ok := by
  induction k generalizing t j with
  | zero => cases t <;> cases j <;> simp [failNth]
  | succ k ih =>
    cases t <;> cases j with
    | zero => simp [failNth]
    | succ j => rw [failNth, List.getD_cons_succ, ih]; simp

theorem steps_of_step_eq_self {s : State} (h : step s = .next s) (n : Nat) : steps n s = .next s := by
  induction n with
  | zero => rfl
  | succ n ih => rw [steps_succ n h, ih]

/-- Settles O51: the sensor's act on its list, the mark in the transport's answers, and the stall by induction. -/
theorem sensorAndTransportEvents : Obligations.SensorAndTransportEvents := by
  refine ⟨fun s a v rest hs hwf => ⟨actedMemory s.sensor a v, ?_, wf_actedMemory a v hwf,
      lookup_actedMemory_same a v hwf, fun b => lookup_actedMemory_other _ a v⟩,
    fun s k rest hs => ⟨_, step_failNth hs, getD_failNth k _⟩,
    fun s n hs => steps_of_step_eq_self (by simp [step, sequencerStep, hs]) n⟩
  rw [step_sensor hs, sensorActs_eq_actedMemory, dropEvent_eq hs]

end Sys2Proof.Machine

/-! PROOF. The arithmetic of the result path (spec 40_arithmetic.md R129, R130; 45_humidity.md R223, R224;
46_pressure.md R240; 47_output.md R262, R265). -/

namespace Sys2Proof.Machine

/-- R129: the sum does not wrap, and its floor is the nearest integer, ties up. -/
theorem roundShift_nearest {x : Word} {n : Nat} (h1 : 1 ≤ n) (h31 : n ≤ 31) (hx : x.toInt + 2 ^ (n - 1) ≤ 2147483647) :
    2 ^ n * (2 * (roundShift x n).toInt - 1) ≤ 2 * x.toInt ∧
      2 * x.toInt < 2 ^ n * (2 * (roundShift x n).toInt + 1) := by
  have hlo : -2147483648 ≤ x.toInt := BitVec.le_toInt x
  have hhalf : (2 : Int) ^ n = 2 * 2 ^ (n - 1) := by rw [← pow_succ', Nat.sub_add_cancel h1]
  have hpos : (0 : Int) < 2 ^ (n - 1) := by positivity
  have hval : (roundShift x n).toInt = floorShift (x.toInt + 2 ^ (n - 1)) n := by
    rw [toInt_roundShift_of_le h31, wrapS_of_fits (by linarith) hx]
  have hle := floorShift_mul_le (x.toInt + 2 ^ (n - 1)) n
  have hlt := lt_floorShift_add_one_mul (x.toInt + 2 ^ (n - 1)) n
  rw [← hval] at hle hlt
  constructor <;> linarith

/-- R130: a word inside the range is its own clamp. -/
theorem clamp_of_inRange {v : Word} (hlo : 0 ≤ v.toInt) (hhi : v.toInt ≤ 419430400) : clamp v = v := by
  apply BitVec.eq_of_toInt_eq
  rw [toInt_clamp]
  omega

/-- Settles O32: the rounding by its floor, the clamp by its value. -/
theorem roundAndClamp : Obligations.RoundAndClamp := by
  refine ⟨fun x n => roundShift_nearest, fun v => ⟨fun h => ?_, fun h => ?_, clamp_of_inRange⟩⟩
  · rw [toInt_clamp]; omega
  · rw [toInt_clamp]; omega

/-- R224: whatever steps 1 to 8 give. -/
theorem toNat_humidityFinish_eq (w : Word) :
    ((humidityFinish w).toNat : Int) = max 0 (min w.toInt 419430400) / 4096 := by
  rw [toNat_humidityFinish, refHumidityFinish_eq]

/-- R223: 419430400 is 102400 times 4096. -/
theorem toNat_humidityFinish_le (w : Word) : (humidityFinish w).toNat ≤ 102400 := by
  have h := toNat_humidityFinish_eq w
  omega

/-- Settles O24: CMPH writes a finished word, on whatever operand. -/
theorem humidityIsInRange : Obligations.HumidityIsInRange := by
  refine ⟨toNat_humidityFinish_eq, toNat_humidityFinish_le, fun s => ⟨_, exec_cmph_eq s, ?_⟩⟩
  rw [goPhase_hOut, putHOut_hOut]
  exact toNat_humidityFinish_le _

theorem chargeTfine_of_invalid {s : State} (h : s.tfv = false) : chargeTfine s = { s with draws := s.draws + 1 } := by
  simp [chargeTfine, h]

theorem tfineOperand_of_invalid {s : State} (h : s.tfv = false) : tfineOperand s = Config.unspecified 32 s.draws := by
  simp [tfineOperand, h]

/-- Settles O22: both stages take the free operand and are charged for it. -/
theorem stagesRunOnAFreeFineTemperature : Obligations.StagesRunOnAFreeFineTemperature := by
  intro s h
  rw [exec_cmph_eq, exec_cmpp_eq, tfineOperand_of_invalid h, chargeTfine_of_invalid h, goPhase_putHOut, goPhase_putPOut]
  exact ⟨rfl, rfl⟩

theorem reading_of_defined {s : State} (h : resultsDefined s = true) :
    reading s = some (readingOf s.tOut s.hOut s.pOut) := if_pos h

theorem reading_of_undefined {s : State} (h : resultsDefined s = false) : reading s = none := by
  simp [reading, h]

/-- A Reading shows published results of an idle CORE (R46). -/
theorem eq_readingOf_of_reading {s : State} {r : Reading} (h : reading s = some r) :
    s.rvalid = true ∧ r = readingOf s.tOut s.hOut s.pOut := by
  cases hdef : resultsDefined s with
  | false => simp [reading_of_undefined hdef] at h
  | true =>
    have hv : s.rvalid = true := Bool.and_elim_left hdef
    exact ⟨hv, Option.some.inj (h.symm.trans (reading_of_defined hdef))⟩

/-- R265 for the three words that the stages give. -/
theorem readingOf_inRange {t h p : Word} (hlo : -23040 ≤ t.toInt) (hhi : t.toInt ≤ 23040) (hh : h.toNat ≤ 102400) :
    -(23040 : Rat) / 100 ≤ (readingOf t h p).temperatureC ∧ (readingOf t h p).temperatureC ≤ (23040 : Rat) / 100 ∧
      0 ≤ (readingOf t h p).humidityPctRH ∧ (readingOf t h p).humidityPctRH ≤ 100 ∧
      0 ≤ (readingOf t h p).pressureHPa ∧ (readingOf t h p).pressureHPa ≤ (4294967295 : Rat) / 100 := by
  have hlo' : (-23040 : Rat) ≤ t.toInt := by exact_mod_cast hlo
  have hhi' : (t.toInt : Rat) ≤ 23040 := by exact_mod_cast hhi
  have hh' : (h.toNat : Rat) ≤ 102400 := by exact_mod_cast hh
  have hp' : (p.toNat : Rat) ≤ 4294967295 := by exact_mod_cast Nat.le_of_lt_succ p.isLt
  have hh0 : (0 : Rat) ≤ h.toNat := Nat.cast_nonneg _
  have hp0 : (0 : Rat) ≤ p.toNat := Nat.cast_nonneg _
  simp only [readingOf]
  refine ⟨?_, ?_, ?_, ?_, ?_, ?_⟩ <;> linarith

/-- Settles O37: the quotients as they stand; in a sound state the results are those of a burst, whose ranges hold for
every burst. -/
theorem readingIsExactAndInRange : Obligations.ReadingIsExactAndInRange := by
  refine ⟨fun s hb hv => ⟨_, reading_of_defined (resultsDefined_of_idle_valid hb hv), ?_, ?_, ?_⟩,
    fun s h => reading_of_undefined (resultsDefined_of_busy_or_invalid h), fun s r _ hdata h => ?_⟩
  · exact div_mul_cancel₀ _ (by norm_num)
  · exact div_mul_cancel₀ _ (by norm_num)
  · exact div_mul_cancel₀ _ (by norm_num)
  · obtain ⟨hv, rfl⟩ := eq_readingOf_of_reading h
    obtain ⟨htOut, hhOut, -⟩ := hdata.results hv
    obtain ⟨-, -, hlo, hhi⟩ := temperatureIsBounded (burstT s.rb) s.calT
    rw [htOut, hhOut]
    exact readingOf_inRange hlo hhi (toNat_humidityFinish_le _)

end Sys2Proof.Machine

/-! PROOF. A GET (spec 41_commands.md R152, R153, R157; 43_raw_sample.md; 60_exceptions.md R273): each of its nine steps
as an exact next state, the undisturbed run that they make up, and the run whose burst fails. -/

namespace Sys2Proof.Machine

/-- GET dispatched while READY (R150). -/
theorem step_get_of_ready {s : State} {rest : List Event} (hb : s.busy = false) (hl : s.lc = .ready)
    (hs : s.script = .command 0x02#8 :: rest) :
    step s = .next { s with script := rest, busy := true, phase := 0x20#6, rvalid := false, tfv := false } := by
  rw [step_command_of_idle hb hs, dropEvent_eq hs]
  exact exec_get_of_ready hb hl

theorem step_at_trig {s : State} (hb : s.busy = true) (hs : s.script = []) (hp : s.phase = 0x20#6)
    (hok : nextAnswer s = .ok) :
    step s = .next { afterWrite s 0xF4#8 s.params.cfgCtrlForced with phase := 0x21#6 } := by
  rw [step_turn (i := .trig) hb hs (by rw [hp]; rfl)]
  exact (registerWrite_trig.2 s).1 hok

theorem step_at_wait {s : State} (hb : s.busy = true) (hs : s.script = []) (hp : s.phase = 0x21#6) :
    step s = .next { s with phase := 0x22#6 } := by
  rw [step_turn (i := .wait) hb hs (by rw [hp]; rfl)]
  rfl

/-- A read of registers that are all listed gives their contents. -/
theorem drawBytes_listed {mem : Memory} {m : Nat → Byte} {n : Nat} (d a : Nat)
    (h : ∀ i < n, mem.lookup (a + i) = some (m (a + i))) :
    drawBytes mem d a n = (List.range n).map fun i => m (a + i) := by
  apply List.ext_getElem (by simp [drawBytes_length])
  intro i hi hi'
  have hn : i < n := by rwa [drawBytes_length] at hi
  calc (drawBytes mem d a n)[i]
    _ = byteAt (drawBytes mem d a n) i := (List.getD_eq_getElem _ _ hi).symm
    _ = drawByte mem (d + i) (a + i) := byteAt_drawBytes mem d a hn
    _ = m (a + i) := drawByte_listed _ (h i hn)
    _ = ((List.range n).map fun i => m (a + i))[i] := by simp

/-- A burst that succeeds on listed registers (R202). -/
theorem step_at_rdraw {s : State} {m : Nat → Byte} (hb : s.busy = true) (hs : s.script = []) (hp : s.phase = 0x22#6)
    (hok : nextAnswer s = .ok) (hm : Lists s measurementRegister m) :
    step s = .next { s with
      rb := burstFrom m
      phase := 0x23#6
      transport := s.transport.tail
      draws := s.draws + 8
      history := readOf m 0xF7#8 8 :: s.history } := by
  have hbytes : drawBytes s.sensor s.draws 0xF7 8 = (List.range 8).map fun i => m (0xF7 + i) := by
    refine drawBytes_listed _ _ fun i hi => hm _ ?_
    simp [measurementRegister]
    omega
  rw [step_turn (i := .rdraw) hb hs (by rw [hp]; rfl), exec_rdraw_of_ok hok, hbytes]
  rfl

theorem step_at_rdraw_of_fail {s : State} (hb : s.busy = true) (hs : s.script = []) (hp : s.phase = 0x22#6)
    (hfail : nextAnswer s = .fail) : step s = .next (afterFailedRead s 0xF7#8 8) := by
  rw [step_turn (i := .rdraw) hb hs (by rw [hp]; rfl), exec_rdraw_of_fail hfail]

theorem step_at_unpk {s : State} (hb : s.busy = true) (hs : s.script = []) (hp : s.phase = 0x23#6) :
    step s = .next { s with adcP := burstP s.rb, adcT := burstT s.rb, adcH := burstH s.rb, phase := 0x24#6 } := by
  rw [step_turn (i := .unpk) hb hs (by rw [hp]; rfl), exec_unpk_eq]
  rfl

theorem step_at_cmpt {s : State} (hb : s.busy = true) (hs : s.script = []) (hp : s.phase = 0x24#6) :
    step s = .next { s with
      tfine := temperatureFine s.adcT s.calT
      tfv := true
      tOut := temperatureResult (temperatureFine s.adcT s.calT)
      phase := 0x25#6 } := by
  rw [step_turn (i := .cmpt) hb hs (by rw [hp]; rfl), exec_cmpt_eq]
  rfl

theorem step_at_cmph {s : State} (hb : s.busy = true) (hs : s.script = []) (hp : s.phase = 0x25#6)
    (hvalid : s.tfv = true) :
    step s = .next { s with hOut := humidityStage s.adcH s.tfine s.calH, phase := 0x26#6 } := by
  rw [step_turn (i := .cmph) hb hs (by rw [hp]; rfl), exec_cmph_of_valid hvalid]

theorem step_at_cmpp {s : State} (hb : s.busy = true) (hs : s.script = []) (hp : s.phase = 0x26#6)
    (hvalid : s.tfv = true) :
    step s = .next { s with pOut := pressureStage s.adcP s.tfine s.calP, phase := 0x27#6 } := by
  rw [step_turn (i := .cmpp) hb hs (by rw [hp]; rfl), exec_cmpp_of_valid hvalid]

/-- k steps lead from s to t. -/
def Leads (k : Nat) (s t : State) : Prop := ∀ n, steps (k + n) s = steps n t

theorem leads_one {s t : State} (h : step s = .next t) : Leads 1 s t := by
  intro n
  rw [Nat.add_comm, steps_succ n h]

theorem Leads.trans {j k : Nat} {s t u : State} (h : Leads j s t) (h' : Leads k t u) : Leads (j + k) s u := by
  intro n
  rw [Nat.add_assoc, h, h']

theorem Leads.steps_eq {k : Nat} {s t : State} (h : Leads k s t) : steps k s = .next t := h 0

/-- From dispatch to WAIT: the sensor is triggered (R150, R200, R201). -/
theorem get_triggers {s : State} (hb : s.busy = false) (hl : s.lc = .ready) (hs : s.script = [.command 0x02#8])
    (hok : nextAnswer s = .ok) :
    Leads 3 s { s with
      phase := 0x22#6
      busy := true
      rvalid := false
      tfv := false
      script := []
      sensor := s.sensor.write 0xF4 s.params.cfgCtrlForced
      transport := s.transport.tail
      history := .write Config.devAddr 0xF4#8 s.params.cfgCtrlForced true :: s.history } := by
  have h1 := leads_one (step_get_of_ready hb hl hs)
  have h2 := h1.trans (leads_one (step_at_trig rfl rfl rfl hok))
  exact h2.trans (leads_one (step_at_wait rfl rfl rfl))

/-- The trigger's write leaves the measurement registers alone (R61). -/
theorem lists_measurement_write {s : State} {m : Nat → Byte} (v : Byte) (hm : Lists s measurementRegister m) :
    Lists { s with sensor := s.sensor.write 0xF4 v } measurementRegister m := by
  intro a ha
  have hne : a ≠ 0xF4 := by rintro rfl; cases ha
  exact (lookup_write_other _ _ _ _ hne).trans (hm a ha)

/-- From dispatch to the end of RDRAW: the burst is read. -/
theorem get_acquires {s : State} {m : Nat → Byte} (hb : s.busy = false) (hl : s.lc = .ready)
    (hs : s.script = [.command 0x02#8]) (hok : AllOk s) (hm : Lists s measurementRegister m) :
    Leads 4 s { s with
      rb := burstFrom m
      phase := 0x23#6
      busy := true
      rvalid := false
      tfv := false
      script := []
      sensor := s.sensor.write 0xF4 s.params.cfgCtrlForced
      transport := s.transport.drop 2
      draws := s.draws + 8
      history := (getTransactions s.params m).reverse ++ s.history } := by
  have hok2 : AllOk { s with transport := s.transport.tail } := allOk_tail hok
  have h3 := get_triggers hb hl hs (nextAnswer_allOk hok)
  have h4 := h3.trans (leads_one (step_at_rdraw rfl rfl rfl (nextAnswer_allOk hok2) (lists_measurement_write _ hm)))
  have hdrop : s.transport.drop 2 = s.transport.tail.tail := by
    rw [← List.drop_one, ← List.drop_one, List.drop_drop]
  rw [hdrop]
  exact h4

/-- From UNPK to the end of OUT: the five steps that compute. -/
theorem get_computes {s : State} (hb : s.busy = true) (hs : s.script = []) (hp : s.phase = 0x23#6) :
    Leads 5 s { s with
      adcP := burstP s.rb
      adcT := burstT s.rb
      adcH := burstH s.rb
      tfine := fineOf s.calT s.rb
      tfv := false
      tOut := tOutOf s.calT s.rb
      hOut := hOutOf s.calT s.calH s.rb
      pOut := pOutOf s.calT s.calP s.rb
      rvalid := true
      busy := false
      phase := 0x00#6
      err := 0#2 } := by
  have h1 := leads_one (step_at_unpk hb hs hp)
  have h2 := h1.trans (leads_one (step_at_cmpt hb hs rfl))
  have h3 := h2.trans (leads_one (step_at_cmph hb hs rfl rfl))
  have h4 := h3.trans (leads_one (step_at_cmpp hb hs rfl rfl))
  have h5 := h4.trans (leads_one (step_at_out hb hs rfl))
  exact h5

/-- Settles O53: the burst is read in four steps, and the results are computed from it in five. -/
theorem getComputesTheReading : Obligations.GetComputesTheReading := by
  intro s m hb hl hs hok hm
  exact ((get_acquires hb hl hs hok hm).trans (get_computes rfl rfl rfl)).steps_eq

/-- Settles O54: both runs end with the results that O53 gives, and these name only the coefficients and the burst. -/
theorem getIsAPureFunction : Obligations.GetIsAPureFunction := by
  intro s₁ s₂ m ⟨hb₁, hl₁, hs₁, hok₁, hm₁⟩ ⟨hb₂, hl₂, hs₂, hok₂, hm₂⟩ ⟨hT, hP, hH⟩
  refine ⟨_, _, getComputesTheReading s₁ m hb₁ hl₁ hs₁ hok₁ hm₁, getComputesTheReading s₂ m hb₂ hl₂ hs₂ hok₂ hm₂,
    rfl, rfl, ?_, ?_, ?_⟩
  · simp only [hT]
  · simp only [hT, hH]
  · simp only [hT, hP]

/-- Settles O55: after the trigger the burst fails. -/
theorem failedBurstEndsTheGet : Obligations.FailedBurstEndsTheGet := by
  intro s rest hb hl hs ht
  have hok : nextAnswer s = .ok := by rw [nextAnswer, ht]; rfl
  have hfail : nextAnswer { s with transport := s.transport.tail } = .fail := by rw [nextAnswer, ht]; rfl
  have h3 := get_triggers hb hl hs hok
  have h4 := h3.trans (leads_one (step_at_rdraw_of_fail rfl rfl rfl hfail))
  have hrest : s.transport.tail.tail = rest := by rw [ht]; rfl
  rw [← hrest]
  exact h4.steps_eq

end Sys2Proof.Machine

/-! PROOF. INIT (spec 41_commands.md R151, R156; 60_exceptions.md R273, R281): a step of it whose transaction fails, and
the undisturbed run that loads every coefficient. -/

namespace Sys2Proof.Machine

/-- INIT dispatched while UNINIT (R150). -/
theorem step_init_of_uninit {s : State} {rest : List Event} (hb : s.busy = false) (hl : s.lc = .uninit)
    (hs : s.script = .command 0x01#8 :: rest) :
    step s = .next { s with script := rest, busy := true, phase := 0x01#6 } := by
  rw [step_command_of_idle hb hs, dropEvent_eq hs]
  exact exec_init_of_uninit hb hl

/-- A micro-operation of INIT before RDY, where the next transaction fails, records it and raises BusError (R273). -/
theorem Ran.failed_of_initPhase {s t : State} {i : Instr} {c : PhaseCode} (h : Ran s i t) (hi : encode i = .ph6 c)
    (hlo : 0x01#6 ≤ c) (hhi : c ≤ 0x15#6) (hfail : nextAnswer s = .fail) :
    ∃ x, t = raise .busError (transacted x s) := by
  cases h with
  | wrcfg0Failed | wrcfg1Failed | wrcfg2Failed | ldt1Failed | ldt2Failed | ldt3Failed | ldp1Failed | ldp2Failed
  | ldp3Failed | ldp4Failed | ldp5Failed | ldp6Failed | ldp7Failed | ldp8Failed | ldp9Failed | ldh1Failed
  | ldh2Failed | ldh3Failed | ldh4Failed | ldh5Failed | ldh6Failed => exact ⟨_, rfl⟩
  -- The commands have no phase code, and these codes lie outside the range.
  | init | initRefused | get | getRefused => cases hi
  | idle => cases hi; exact absurd hlo (by decide)
  | rdy | trigFailed | wait | rdrawFailed | unpk | cmpt | cmph | cmpp | out => cases hi; exact absurd hhi (by decide)
  -- The next transaction did not fail.
  | _ => simp_all

/-- Settles O56: the failed step is `raise` on the recorded transaction, and the state it leaves is idle and UNINIT. -/
theorem failedInitCanBeRepeated : Obligations.FailedInitCanBeRepeated := by
  intro s hinv hb hlo hhi hs hfail
  obtain ⟨t, ht⟩ := hinv.step_completes
  have hinit : initPhase s.phase = true := initPhase_iff.2 ⟨hlo, by bv_omega⟩
  obtain ⟨-, -, hl⟩ := hinv.flags_of_initPhase hb rfl hinit
  obtain ⟨x, rfl⟩ : ∃ x, t = raise .busError (transacted x s) := by
    rw [step_of_waiting hb (.inl hs)] at ht
    rcases coreTurn_cases s with ⟨hidle, -⟩ | ⟨-, i, hd, e⟩ | ⟨-, -, e⟩
    · simp [hb] at hidle
    · exact (exec_ran (e.symm.trans ht)).failed_of_initPhase (decodePhase_code hd) hlo hhi hfail
    · cases e.symm.trans ht
  exact ⟨_, ht, raised_raise _ _, raise_err _ _, by simpa using hl, ⟨rfl, rfl, rfl⟩, fun _ => rfl, _,
    step_init_of_uninit rfl hl rfl, rfl, rfl, hl, rfl, rfl, rfl⟩

end Sys2Proof.Machine

/-! PROOF. An undisturbed INIT (spec 41_commands.md R151, R156; 42_calibration_ingest.md; 20_memory.md R79): dispatch,
the three writes, the three groups of loads and RDY, each as an exact state, and the run that they make up. -/

namespace Sys2Proof.Machine

/-- s after the successful transactions xs, oldest first, whose reads took d draws. -/
def afterTransactions (xs : List Transaction) (d : Nat) (s : State) : State :=
  { s with
    transport := s.transport.drop xs.length
    draws := s.draws + d
    history := xs.reverse ++ s.history }

theorem gotBytes_eq_afterTransactions (a : Byte) (n : Nat) (b : List Byte) (s : State) :
    gotBytes a n b s = afterTransactions [.read Config.devAddr a n (some b)] n s := by
  simp [gotBytes, transacted, afterTransactions]

theorem writeOk_eq_afterTransactions (a v : Byte) (s : State) :
    writeOk a v s = { afterTransactions [.write Config.devAddr a v true] 0 s with
      sensor := s.sensor.write a.toNat v } := by
  simp [writeOk, transacted, afterTransactions]

/-- A run of k steps that leaves INIT running at code c. -/
structure LeadsTo (m : Nat → Byte) (k : Nat) (c : PhaseCode) (s t : State) : Prop where
  leads : Leads k s t
  running : Running m calibrationRegister c t

/-! The run grows by one micro-operation at a time. -/

section
variable {m : Nat → Byte} {k : Nat} {c next : PhaseCode} {s t : State} {i : Instr}

theorem LeadsTo.refl (g : Running m calibrationRegister c s) : LeadsTo m 0 c s s :=
  ⟨fun n => by rw [Nat.zero_add], g⟩

theorem LeadsTo.step {u : State} (h : LeadsTo m k c s t)
    (h' : Machine.step t = .next u ∧ Running m calibrationRegister next u) : LeadsTo m (k + 1) next s u :=
  ⟨h.leads.trans (leads_one h'.1), h'.2⟩

/-- The writes of INIT touch no register that it reads (R61). -/
theorem ne_cfgAddr_of_calibrationRegister (r : CfgReg) (b : Nat) (h : calibrationRegister b = true) :
    b ≠ (cfgAddr r).toNat := by
  rintro rfl
  cases r <;> cases h

theorem LeadsTo.writeConfig {r : CfgReg} (h : LeadsTo m k c s t) (hx : exec i t = writeConfig r next t)
    (hd : decodePhase c = .ok i) :
    LeadsTo m (k + 1) next s (goPhase next (writeOk (cfgAddr r) (cfgByte t.params r) t)) :=
  h.step (writeThen_running h.running hx hd (ne_cfgAddr_of_calibrationRegister r))

theorem LeadsTo.loadWord {a : Byte} (put : Half → State → State) (h : LeadsTo m k c s t)
    (hx : ∀ u, exec i u = loadWord a next put u) (hd : decodePhase c = .ok i)
    (h1 : calibrationRegister a.toNat = true) (h2 : calibrationRegister (a.toNat + 1) = true)
    (hq : ∀ v, Quiet (put v)) :
    LeadsTo m (k + 1) next s (goPhase next (put (le16 (m a.toNat) (m (a.toNat + 1)))
      (afterTransactions [readOf m a 2] 2 t))) := by
  have hload := loadWord_running h.running hx hd h1 h2 hq
  rw [gotBytes_eq_afterTransactions] at hload
  exact h.step hload

theorem LeadsTo.loadByte {a : Byte} (put : Byte → State → State) (h : LeadsTo m k c s t)
    (hx : ∀ u, exec i u = loadByte a next put u) (hd : decodePhase c = .ok i)
    (h1 : calibrationRegister a.toNat = true) (hq : ∀ v, Quiet (put v)) :
    LeadsTo m (k + 1) next s (goPhase next (put (m a.toNat) (afterTransactions [readOf m a 1] 1 t))) := by
  have hload := loadByte_running h.running hx hd h1 hq
  rw [gotBytes_eq_afterTransactions] at hload
  exact h.step hload

theorem LeadsTo.loadTwoBytes {a b : Byte} (put : Byte → Byte → State → State) (h : LeadsTo m k c s t)
    (hx : ∀ u, exec i u = loadTwoBytes a b next put u) (hd : decodePhase c = .ok i)
    (h1 : calibrationRegister a.toNat = true) (h2 : calibrationRegister b.toNat = true)
    (hq : ∀ v w, Quiet (put v w)) :
    LeadsTo m (k + 1) next s (goPhase next (put (m a.toNat) (m b.toNat)
      (afterTransactions [readOf m b 1] 1 (afterTransactions [readOf m a 1] 1 t)))) := by
  have hload := loadTwoBytes_running h.running hx hd h1 h2 hq
  rw [gotBytes_eq_afterTransactions, gotBytes_eq_afterTransactions] at hload
  exact h.step hload

end

/-! The groups of the sequence. -/

/-- WRCFG0 to WRCFG2. -/
theorem writes_leadTo {m : Nat → Byte} {s : State} (g : Running m calibrationRegister 0x01#6 s) :
    LeadsTo m 3 0x04#6 s { afterTransactions [configWrite s.params (cfgFirst s.params.cfgOrder),
        configWrite s.params (cfgSecond s.params.cfgOrder), configWrite s.params (cfgThird s.params.cfgOrder)] 0 s with
      phase := 0x04#6
      sensor :=
        ((s.sensor.write (cfgAddr (cfgFirst s.params.cfgOrder)).toNat
              (cfgByte s.params (cfgFirst s.params.cfgOrder))).write
            (cfgAddr (cfgSecond s.params.cfgOrder)).toNat (cfgByte s.params (cfgSecond s.params.cfgOrder))).write
          (cfgAddr (cfgThird s.params.cfgOrder)).toNat (cfgByte s.params (cfgThird s.params.cfgOrder)) } := by
  have h := (((LeadsTo.refl g).writeConfig (i := .wrcfg0) rfl rfl).writeConfig (i := .wrcfg1) rfl rfl).writeConfig
    (i := .wrcfg2) rfl rfl
  convert h using 1
  apply state_ext <;> simp [writeOk_eq_afterTransactions, afterTransactions, configWrite]

/-- LDT1 to LDT3. -/
theorem temperatureLoads_leadTo {m : Nat → Byte} {s : State} (g : Running m calibrationRegister 0x04#6 s) :
    LeadsTo m 3 0x07#6 s { afterTransactions [readOf m 0x88#8 2, readOf m 0x8A#8 2, readOf m 0x8C#8 2] 6 s with
      calT := calTOf m
      phase := 0x07#6 } := by
  have h1 := (LeadsTo.refl g).loadWord putT1 (fun _ => rfl) rfl rfl rfl fun _ _ => ⟨rfl, rfl, rfl, rfl⟩
  have h2 := h1.loadWord putT2 (fun _ => rfl) rfl rfl rfl fun _ _ => ⟨rfl, rfl, rfl, rfl⟩
  have h3 := h2.loadWord putT3 (fun _ => rfl) rfl rfl rfl fun _ _ => ⟨rfl, rfl, rfl, rfl⟩
  convert h3 using 1
  apply state_ext <;> simp [afterTransactions, calTOf]

/-- LDP1 to LDP9. -/
theorem pressureLoads_leadTo {m : Nat → Byte} {s : State} (g : Running m calibrationRegister 0x07#6 s) :
    LeadsTo m 9 0x10#6 s { afterTransactions [readOf m 0x8E#8 2, readOf m 0x90#8 2, readOf m 0x92#8 2,
        readOf m 0x94#8 2, readOf m 0x96#8 2, readOf m 0x98#8 2, readOf m 0x9A#8 2, readOf m 0x9C#8 2,
        readOf m 0x9E#8 2] 18 s with
      calP := calPOf m
      phase := 0x10#6 } := by
  have h1 := (LeadsTo.refl g).loadWord putP1 (fun _ => rfl) rfl rfl rfl fun _ _ => ⟨rfl, rfl, rfl, rfl⟩
  have h2 := h1.loadWord putP2 (fun _ => rfl) rfl rfl rfl fun _ _ => ⟨rfl, rfl, rfl, rfl⟩
  have h3 := h2.loadWord putP3 (fun _ => rfl) rfl rfl rfl fun _ _ => ⟨rfl, rfl, rfl, rfl⟩
  have h4 := h3.loadWord putP4 (fun _ => rfl) rfl rfl rfl fun _ _ => ⟨rfl, rfl, rfl, rfl⟩
  have h5 := h4.loadWord putP5 (fun _ => rfl) rfl rfl rfl fun _ _ => ⟨rfl, rfl, rfl, rfl⟩
  have h6 := h5.loadWord putP6 (fun _ => rfl) rfl rfl rfl fun _ _ => ⟨rfl, rfl, rfl, rfl⟩
  have h7 := h6.loadWord putP7 (fun _ => rfl) rfl rfl rfl fun _ _ => ⟨rfl, rfl, rfl, rfl⟩
  have h8 := h7.loadWord putP8 (fun _ => rfl) rfl rfl rfl fun _ _ => ⟨rfl, rfl, rfl, rfl⟩
  have h9 := h8.loadWord putP9 (fun _ => rfl) rfl rfl rfl fun _ _ => ⟨rfl, rfl, rfl, rfl⟩
  convert h9 using 1
  apply state_ext <;> simp [afterTransactions, calPOf]

/-- LDH1 to LDH6. -/
theorem humidityLoads_leadTo {m : Nat → Byte} {s : State} (g : Running m calibrationRegister 0x10#6 s) :
    LeadsTo m 6 0x16#6 s { afterTransactions [readOf m 0xA1#8 1, readOf m 0xE1#8 2, readOf m 0xE3#8 1,
        readOf m 0xE4#8 1, readOf m 0xE5#8 1, readOf m 0xE6#8 1, readOf m 0xE5#8 1, readOf m 0xE7#8 1] 9 s with
      calH := calHOf m
      phase := 0x16#6 } := by
  have h1 := (LeadsTo.refl g).loadByte putH1 (fun _ => rfl) rfl rfl fun _ _ => ⟨rfl, rfl, rfl, rfl⟩
  have h2 := h1.loadWord putH2 (fun _ => rfl) rfl rfl rfl fun _ _ => ⟨rfl, rfl, rfl, rfl⟩
  have h3 := h2.loadByte putH3 (fun _ => rfl) rfl rfl fun _ _ => ⟨rfl, rfl, rfl, rfl⟩
  have h4 := h3.loadTwoBytes (fun e4 e5 => putH4 (nibbleH4 e4 e5)) (fun _ => rfl) rfl rfl rfl
    fun _ _ _ => ⟨rfl, rfl, rfl, rfl⟩
  have h5 := h4.loadTwoBytes (fun e6 e5 => putH5 (nibbleH5 e6 e5)) (fun _ => rfl) rfl rfl rfl
    fun _ _ _ => ⟨rfl, rfl, rfl, rfl⟩
  have h6 := h5.loadByte putH6 (fun _ => rfl) rfl rfl fun _ _ => ⟨rfl, rfl, rfl, rfl⟩
  convert h6 using 1
  apply state_ext <;> simp [afterTransactions, calHOf]

/-- With a busy CORE at RDY and an empty script, the INIT ends without error (R191). -/
theorem step_at_rdy {s : State} (hb : s.busy = true) (hs : s.script = []) (hp : s.phase = 0x16#6) :
    step s = .next (endCommand (becomeReady s)) := by
  rw [step_turn (i := .rdy) hb hs (by rw [hp]; rfl), exec_rdy_eq]

/-- Settles O52: the groups of the sequence one after the other. -/
theorem initLoadsTheCalibration : Obligations.InitLoadsTheCalibration := by
  intro s m hb hl hs hok hm
  have hstart := leads_one (step_init_of_uninit hb hl hs)
  have hwrites := writes_leadTo (m := m) (s := { s with script := [], busy := true, phase := 0x01#6 })
    ⟨rfl, rfl, rfl, hok, hm⟩
  have hT := temperatureLoads_leadTo hwrites.running
  have hP := pressureLoads_leadTo hT.running
  have hH := humidityLoads_leadTo hP.running
  have hend := leads_one (step_at_rdy hH.running.busy hH.running.script hH.running.phase)
  have hrun := ((((hstart.trans hwrites.leads).trans hT.leads).trans hP.leads).trans hH.leads).trans hend
  rw [hrun.steps_eq]
  congr 1
  apply state_ext <;> simp [afterTransactions, initTransactions]

end Sys2Proof.Machine
